-- ==== Sys2Proof/Word.lean ====
section
/-! DEFINITION. The quantities of the ook-gpio CORE and its named sets of values. The widths of the quantities are
parameters (spec/00_scope.md R7), so each is held as the unsigned number it is, a natural (R8), and so is a packed
word; that it fits its width is well-formedness of an instruction and an invariant of the state (log 1). The block does
no arithmetic that wraps (spec/42_send.md R108). -/

namespace Sys2Proof

/-- One byte of a frame buffer (R35). -/
abbrev Byte := BitVec 8

/-- A logical level of the line (R65). -/
inductive Level where
  | low
  | high
  deriving DecidableEq, Repr, Inhabited

/-- The ordering convention of a symbol's two halves (R14). -/
inductive BitFormat where
  | highThenLow
  | lowThenHigh
  deriving DecidableEq, Repr, Inhabited

/-- The result of a host operation (R64, R123). -/
inductive Status where
  | ok
  | invalidFormat
  | invalidBitLength
  | lineUnavailable
  | lineFault
  deriving DecidableEq, Repr, Inhabited

/-- The state of the sequencer (R19). -/
inductive SeqState where
  | idle
  | acquiring
  | sending
  | failed
  deriving DecidableEq, Repr, Inhabited

/-- Which of a symbol's four Line Interface calls is next: `SEQ.phase` 0, 1, 2, 3 (R21, R80). -/
inductive Phase where
  | setFirst
  | holdFirst
  | setSecond
  | holdSecond
  deriving DecidableEq, Repr, Inhabited

/-- The token LI_ACQUIRE returns, opaque to the CORE and passed back unchanged (R22; log 15). -/
abbrev LineHandle := Nat

/-- An answer of the Line Interface to LI_ACQUIRE (R113). `err` carries nothing: the content of
`LineError` is not used. -/
inductive AcquireAnswer where
  | ok (h : LineHandle)
  | err
  deriving DecidableEq, Repr, Inhabited

/-- An answer of the Line Interface to LI_SET_LEVEL or LI_DELAY (R114, R115). -/
inductive CallAnswer where
  | ok
  | fault
  deriving DecidableEq, Repr, Inhabited

end Sys2Proof
end

