-- ==== Sys2Proof/Config.lean ====
section
/-! DEFINITION. What is fixed for a machine (spec/00_scope.md R7) and the free values: what the spec
leaves open and no proof may see. -/

namespace Sys2Proof

/-- The ten-field record of R13, as it is held in `CFG` and in `ACT`: the format is already one of the
two variants (R14). The durations are microseconds of `DUR_W` bits (R15), the repeat count has `REP_W` bits (R16). -/
structure TimingConfig where
  startHigh : Nat
  startLow : Nat
  endHigh : Nat
  endLow : Nat
  bit0High : Nat
  bit0Low : Nat
  bit1High : Nat
  bit1Low : Nat
  format : BitFormat
  repeatCount : Nat
  deriving DecidableEq, Repr, Inhabited

/-- What a SEND meets while another is in progress (R7, R102). -/
inductive BusyPolicy where
  | block
  | reject
  deriving DecidableEq, Repr, Inhabited

namespace Config

/-- The width parameters `DUR_W`, `REP_W`, `LEN_W`, `CNT_W` and `FMT_W`, in bits (R7). -/
structure Widths where
  dur : Nat
  rep : Nat
  len : Nat
  cnt : Nat
  fmt : Nat
  deriving DecidableEq, Repr, Inhabited

/-- The width of a CFGREC: eight durations, the format and the repeat count, without gaps (R54). -/
def Widths.record (w : Widths) : Nat := 8 * w.dur + w.fmt + w.rep

/-- The widths R7 and D3 take. -/
def defaultWidths : Widths := { dur := 32, rep := 32, len := 32, cnt := 32, fmt := 8 }

/-- All durations 0, `HighThenLow`, `repeat_count` 0: the default of `CFG_RESET` (R7, R30). -/
def cfgResetDefault : TimingConfig :=
  { startHigh := 0, startLow := 0, endHigh := 0, endLow := 0, bit0High := 0, bit0Low := 0,
    bit1High := 0, bit1Low := 0, format := .highThenLow, repeatCount := 0 }

/-- The parameters a model takes as configuration (R7). They are fixed for a machine and held in State, so
that every statement over all states ranges over all of their values (log 2). -/
structure Params where
  widths : Widths
  busyPolicy : BusyPolicy
  maxBytes : Nat
  /-- `DELAY_RES`, in microseconds; "no rule depends on it" (R7), and no step reads it (log 18). -/
  delayRes : Nat
  cfgReset : TimingConfig
  deriving DecidableEq, Repr, Inhabited

/-- The spec's defaults. `MAX_BYTES` is OPEN in R7: DESIGN CHOICE (log 2), the largest count the
`byte_count` field can carry, so that no request is outside the admitted inputs. `DELAY_RES` is OPEN too:
DESIGN CHOICE (log 18), one microsecond, the unit of a duration. -/
def defaultParams : Params :=
  { widths := defaultWidths, busyPolicy := .block, maxBytes := 2 ^ 32 - 1, delayRes := 1,
    cfgReset := cfgResetDefault }

end Config

/-! ### Fitting the widths (R8: a value of width W ranges over 0 to 2^W - 1) -/

/-- Every field of a stored record fits its width (R13, R15, R16). -/
def TimingConfig.fits (w : Config.Widths) (c : TimingConfig) : Bool :=
  [c.startHigh, c.startLow, c.endHigh, c.endLow, c.bit0High, c.bit0Low, c.bit1High, c.bit1Low].all
    (fun n => decide (n < 2 ^ w.dur)) && decide (c.repeatCount < 2 ^ w.rep)

/-- A record of any numbers, each cut to its width. -/
def TimingConfig.clip (w : Config.Widths) (c : TimingConfig) : TimingConfig :=
  { startHigh := c.startHigh % 2 ^ w.dur, startLow := c.startLow % 2 ^ w.dur,
    endHigh := c.endHigh % 2 ^ w.dur, endLow := c.endLow % 2 ^ w.dur,
    bit0High := c.bit0High % 2 ^ w.dur, bit0Low := c.bit0Low % 2 ^ w.dur,
    bit1High := c.bit1High % 2 ^ w.dur, bit1Low := c.bit1Low % 2 ^ w.dur,
    format := c.format, repeatCount := c.repeatCount % 2 ^ w.rep }

namespace Config

/-- Widths R7 admits: `DUR_W` at least 19, `FMT_W` able to carry a value that is no variant. -/
def Widths.admitted (w : Widths) : Bool := decide (19 ≤ w.dur) && decide (2 ≤ w.fmt)

/-- Parameters R7 admits: the widths are, and `CFG_RESET` is a record of these widths. -/
def Params.admitted (p : Params) : Bool := p.widths.admitted && p.cfgReset.fits p.widths

/-! ### Free values -/

/-- The contents of the registers whose live range has ended: `ACT`, `FRM_*`, the position and `TX_STATUS`
(U7; R17, R18, R31, R130). -/
structure DeadRegs where
  act : TimingConfig
  frmLen : Nat
  frmCnt : Nat
  frmBytes : List Byte
  rep : Nat
  slot : Nat
  phase : Phase
  txStatus : Status
  deriving Inhabited

/-- Every register fits its width; the position has the widths of R21. -/
def DeadRegs.fits (w : Widths) (d : DeadRegs) : Bool :=
  d.act.fits w && decide (d.frmLen < 2 ^ w.len) && decide (d.frmCnt < 2 ^ w.cnt)
    && decide (d.rep < 2 ^ (w.rep + 1)) && decide (d.slot < 2 ^ (w.len + 2))

/-- Any contents, each register cut to its width. -/
def DeadRegs.clip (w : Widths) (d : DeadRegs) : DeadRegs :=
  { d with
    act := d.act.clip w
    frmLen := d.frmLen % 2 ^ w.len
    frmCnt := d.frmCnt % 2 ^ w.cnt
    rep := d.rep % 2 ^ (w.rep + 1)
    slot := d.slot % 2 ^ (w.len + 2) }

/-- FREE VALUE (log 5): what the dead registers hold, for the n-th draw, before each is cut to its width. -/
opaque deadRegs : Nat → DeadRegs

/-- FREE VALUE (log 4): the Line Interface's answer to LI_ACQUIRE where State lists none (R119). -/
opaque freeAcquireAnswer : Nat → AcquireAnswer

/-- FREE VALUE (log 4): the Line Interface's answer to LI_SET_LEVEL or LI_DELAY where State lists none
(R119). -/
opaque freeCallAnswer : Nat → CallAnswer

/-- FREE VALUE (log 7): the record part of a SET_CONFIG response, "not meaningful (any value)" (R56), before it
is cut to the record's width. -/
opaque freeRecord : Nat → Nat

end Config

end Sys2Proof
end

