-- ==== Sys2Proof/Syntax.lean ====
section
/-! DEFINITION. The twelve operations of spec/opcode_table.json (R72) and the forms in which their codes
reach a decoder (R53). -/

namespace Sys2Proof

/-- A candidate configuration as SET_CONFIG receives it: ten raw fields, `format` still a number of `FMT_W` bits
(R73). -/
structure RawConfig where
  startHigh : Nat
  startLow : Nat
  endHigh : Nat
  endLow : Nat
  bit0High : Nat
  bit0Low : Nat
  bit1High : Nat
  bit1Low : Nat
  format : Nat
  repeatCount : Nat
  deriving DecidableEq, Repr, Inhabited

/-- The operations, one constructor per row of the table (R72). -/
inductive Instr where
  /-- READ_CONFIG (R74); its request's record is ignored, so it has no operand. -/
  | readConfig
  /-- SET_CONFIG with the candidate (R73). -/
  | setConfig (candidate : RawConfig)
  /-- SEND with its bit length, byte count and bytes (R89). -/
  | send (bitLength : Nat) (byteCount : Nat) (bytes : List Byte)
  /-- SYM_START, the start marker (R81). -/
  | symStart
  /-- SYM_BIT0, the logical-0 symbol (R82). -/
  | symBit0
  /-- SYM_BIT1, the logical-1 symbol (R83). -/
  | symBit1
  /-- SYM_END, the end marker (R84). -/
  | symEnd
  /-- FORCE_LOW, the forced idle (R85). -/
  | forceLow
  /-- LI_ACQUIRE (R113). -/
  | liAcquire
  /-- LI_SET_LEVEL with its level (R114). -/
  | liSetLevel (l : Level)
  /-- LI_DELAY with its microseconds (R115). -/
  | liDelay (n : Nat)
  /-- LI_RELEASE (R116). -/
  | liRelease
  deriving DecidableEq, Repr, Inhabited

/-- What a decoder is given: the bits of a request or call, with the format that the place they stand in
gives them (R53). A word is its length in bits, where its format does not fix it, and the number its bits make. -/
inductive Code where
  /-- CFGREQ, one bit more than a record (R56). -/
  | cfgReq (w : Nat)
  /-- TXREQ, of variable length (R57). -/
  | txReq (len val : Nat)
  /-- FRAMEBIT, one bit of the frame (R60). -/
  | frameBit (b : Bool)
  /-- IMPLICIT: no bits; the slot and `FRM_LEN` select the operation (R61). -/
  | implicit (slot frmLen : Nat)
  /-- LINECALL, of 2, 3 or `2 + DUR_W` bits (R66). -/
  | lineCall (len val : Nat)
  deriving DecidableEq, Repr

/-- Why a code is no operation. -/
inductive DecodeError where
  /-- A number that does not fit the length of its word: no word of the port is that number (R8). -/
  | wordTooWide
  /-- A TXREQ whose length is not that of its two fields and of `byte_count` bytes (R57). -/
  | txReqWrongLength
  /-- A slot that holds a data bit: a FRAMEBIT selects there, not the position alone (R60, R61). -/
  | slotHoldsData
  /-- A slot above `FRM_LEN + 2`, never reached (R97). -/
  | slotPastEnd
  /-- No LINECALL has this length and call code (R66). -/
  | noSuchLineCall
  deriving DecidableEq, Repr

end Sys2Proof
end

