-- ==== Sys2Proof/WellFormed.lean ====
section
/-! DEFINITION. Which instruction terms the encodings can carry, at given widths. -/

namespace Sys2Proof

/-- Every field of a candidate fits its width (R54). -/
def RawConfig.fits (w : Config.Widths) (c : RawConfig) : Bool :=
  [c.startHigh, c.startLow, c.endHigh, c.endLow, c.bit0High, c.bit0Low, c.bit1High, c.bit1Low].all
    (fun n => decide (n < 2 ^ w.dur)) && decide (c.format < 2 ^ w.fmt) && decide (c.repeatCount < 2 ^ w.rep)

/-- The `byte_count` of a TXREQ is the number of bytes that follow it (R57). -/
def bytesMatchCount (byteCount : Nat) (bytes : List Byte) : Bool :=
  bytes.length == byteCount

/-- The operands of a SEND fit their fields and agree with one another (R57). -/
def sendFits (w : Config.Widths) (bitLength : Nat) (byteCount : Nat) (bytes : List Byte) : Bool :=
  decide (bitLength < 2 ^ w.len) && decide (byteCount < 2 ^ w.cnt) && bytesMatchCount byteCount bytes

/-- An instruction some code decodes to: its operands fit their widths, and SEND's agree. -/
def Instr.wellFormed (w : Config.Widths) : Instr → Bool
  | .readConfig => true
  | .setConfig candidate => candidate.fits w
  | .send bitLength byteCount bytes => sendFits w bitLength byteCount bytes
  | .symStart => true
  | .symBit0 => true
  | .symBit1 => true
  | .symEnd => true
  | .forceLow => true
  | .liAcquire => true
  | .liSetLevel _ => true
  | .liDelay n => decide (n < 2 ^ w.dur)
  | .liRelease => true

end Sys2Proof
end

