-- ==== Sys2Proof/Decode.lean ====
section
/-! DEFINITION. The numeric codes and layouts of spec/30_encoding.md at given widths, the decoder, and after it the
encoder. -/

namespace Sys2Proof

/-! ### Codes (R55, R64, R65) -/

/-- The level a one-bit code stands for: `Low = 0`, `High = 1` (R65). -/
def Level.ofBit (b : Bool) : Level := if b then .high else .low

/-- The one-bit code of a level (R65). -/
def Level.bit : Level → Bool
  | .low => false
  | .high => true

/-- The `BitFormat` a code stands for, none where it is invalid (R55). -/
def BitFormat.ofCode (c : Nat) : Option BitFormat :=
  if c = 0 then some .highThenLow else if c = 1 then some .lowThenHigh else none

/-- The code of a `BitFormat`, zeros above its low bit (R55). -/
def BitFormat.code : BitFormat → Nat
  | .highThenLow => 0
  | .lowThenHigh => 1

/-- The three-bit status code (R64). -/
def Status.code : Status → Nat
  | .ok => 0
  | .invalidFormat => 1
  | .invalidBitLength => 2
  | .lineUnavailable => 3
  | .lineFault => 4

/-! ### Packed fields (R54) -/

/-- Field `k` of a word with fields of these widths, least significant first and without gaps: it starts at the
sum of the widths of the fields before it (R54). -/
def fieldAt (widths : List Nat) (k word : Nat) : Nat :=
  word / 2 ^ (widths.take k).sum % 2 ^ widths.getD k 0

/-- The word of these fields, least significant first and without gaps, each cut to its width (R54). -/
def packFields : List Nat → List Nat → Nat
  | w :: ws, v :: vs => v % 2 ^ w + 2 ^ w * packFields ws vs
  | _, _ => 0

/-! ### The configuration record (R54) -/

/-- The widths of the ten fields, in the order of R54. -/
def Config.Widths.fields (w : Config.Widths) : List Nat :=
  [w.dur, w.dur, w.dur, w.dur, w.dur, w.dur, w.dur, w.dur, w.fmt, w.rep]

/-- The ten fields, in the order of R54. -/
def RawConfig.fields (c : RawConfig) : List Nat :=
  [c.startHigh, c.startLow, c.endHigh, c.endLow, c.bit0High, c.bit0Low, c.bit1High, c.bit1Low, c.format,
    c.repeatCount]

/-- The candidate in a CFGREC (R54), wherever it is the low part of a word (R56). -/
def RawConfig.unpack (w : Config.Widths) (word : Nat) : RawConfig :=
  { startHigh := fieldAt w.fields 0 word
    startLow := fieldAt w.fields 1 word
    endHigh := fieldAt w.fields 2 word
    endLow := fieldAt w.fields 3 word
    bit0High := fieldAt w.fields 4 word
    bit0Low := fieldAt w.fields 5 word
    bit1High := fieldAt w.fields 6 word
    bit1Low := fieldAt w.fields 7 word
    format := fieldAt w.fields 8 word
    repeatCount := fieldAt w.fields 9 word }

/-- A candidate packed into a CFGREC (R54). -/
def RawConfig.pack (w : Config.Widths) (c : RawConfig) : Nat := packFields w.fields c.fields

/-- A stored configuration as a record, its format as its code (R55, R74). -/
def TimingConfig.toRaw (c : TimingConfig) : RawConfig :=
  { startHigh := c.startHigh, startLow := c.startLow, endHigh := c.endHigh, endLow := c.endLow,
    bit0High := c.bit0High, bit0Low := c.bit0Low, bit1High := c.bit1High, bit1Low := c.bit1Low,
    format := c.format.code, repeatCount := c.repeatCount }

/-- The record a candidate is stored as, none where its format is neither variant (R73). -/
def RawConfig.validate (c : RawConfig) : Option TimingConfig :=
  match BitFormat.ofCode c.format with
  | none => none
  | some f =>
    some { startHigh := c.startHigh, startLow := c.startLow, endHigh := c.endHigh, endLow := c.endLow,
           bit0High := c.bit0High, bit0Low := c.bit0Low, bit1High := c.bit1High, bit1Low := c.bit1Low,
           format := f, repeatCount := c.repeatCount }

/-! ### Responses (R56, R59) -/

/-- A CFGRSP: status in bits 2:0, the record above it (R56). -/
def cfgRspWord (w : Config.Widths) (status : Status) (record : Nat) : Nat :=
  packFields [3, w.record] [status.code, record]

/-- A TXRSP of three bits (R59). -/
def txRspWord (status : Status) : Nat := status.code

/-! ### The decoder -/

/-- A CFGREQ: the bit above the record is the operation, the record below it the candidate; both values of the
operation are defined (R56). -/
def decodeCfgReq (w : Config.Widths) (word : Nat) : Except DecodeError Instr :=
  if 2 ^ (w.record + 1) ≤ word then .error .wordTooWide
  else if word / 2 ^ w.record = 1 then .ok (.setConfig (RawConfig.unpack w word))
  else .ok .readConfig

/-- The lowest `k` bytes of a number, least significant first. -/
def natBytes : Nat → Nat → List Byte
  | 0, _ => []
  | k + 1, n => BitVec.ofNat 8 n :: natBytes k (n / 256)

/-- A TXREQ: `bit_length`, `byte_count`, then exactly `byte_count` bytes (R57). R57 gives the layout at the
default widths; at others the two fields are packed without gaps too (DEDUCED, log 1). -/
def decodeTxReq (w : Config.Widths) (len val : Nat) : Except DecodeError Instr :=
  let byteCount := fieldAt [w.len, w.cnt] 1 val
  if len ≠ w.len + w.cnt + 8 * byteCount then .error .txReqWrongLength
  else if 2 ^ len ≤ val then .error .wordTooWide
  else .ok (.send (fieldAt [w.len, w.cnt] 0 val) byteCount (natBytes byteCount (val / 2 ^ (w.len + w.cnt))))

/-- A frame bit is a one-bit operation code (R60). -/
def decodeFrameBit (b : Bool) : Instr := if b then .symBit1 else .symBit0

/-- The operation the position alone selects (R61, R97). -/
def decodeImplicit (slot frmLen : Nat) : Except DecodeError Instr :=
  if slot = 0 then .ok .symStart
  else if slot ≤ frmLen then .error .slotHoldsData
  else if slot = frmLen + 1 then .ok .symEnd
  else if slot = frmLen + 2 then .ok .forceLow
  else .error .slotPastEnd

/-- A LINECALL: the call code in the two most significant bits, then the argument (R66). -/
def decodeLineCall (w : Config.Widths) (len val : Nat) : Except DecodeError Instr :=
  if len = 2 ∧ val = 0 then .ok .liAcquire
  else if len = 2 ∧ val = 3 then .ok .liRelease
  else if len = 3 ∧ val / 2 = 1 then .ok (.liSetLevel (Level.ofBit (val % 2 == 1)))
  else if len = w.dur + 2 ∧ val / 2 ^ w.dur = 2 then .ok (.liDelay (val % 2 ^ w.dur))
  else .error .noSuchLineCall

/-- The decoder, total on every code. -/
def decode (w : Config.Widths) : Code → Except DecodeError Instr
  | .cfgReq word => decodeCfgReq w word
  | .txReq len val => decodeTxReq w len val
  | .frameBit b => .ok (decodeFrameBit b)
  | .implicit slot frmLen => decodeImplicit slot frmLen
  | .lineCall len val => decodeLineCall w len val

/-! ### The encoder -/

/-- A CFGREQ of an operation bit and a record (R56). -/
def cfgReqWord (w : Config.Widths) (op : Nat) (record : Nat) : Nat :=
  packFields [w.record, 1] [record, op]

/-- The number whose bytes are these, least significant first. -/
def bytesNat : List Byte → Nat
  | [] => 0
  | b :: bs => b.toNat + 256 * bytesNat bs

/-- A TXREQ (R57). -/
def txReqWord (w : Config.Widths) (bitLength : Nat) (byteCount : Nat) (bytes : List Byte) : Nat :=
  packFields [w.len, w.cnt, 8 * bytes.length] [bitLength, byteCount, bytesNat bytes]

/-- The code of an instruction. The operations without bits are given by their slot in an empty frame
(R61); READ_CONFIG's ignored record is written as zeros (R56). -/
def encode (w : Config.Widths) : Instr → Code
  | .readConfig => .cfgReq (cfgReqWord w 0 0)
  | .setConfig c => .cfgReq (cfgReqWord w 1 (c.pack w))
  | .send bitLength byteCount bytes =>
    .txReq (w.len + w.cnt + 8 * bytes.length) (txReqWord w bitLength byteCount bytes)
  | .symStart => .implicit 0 0
  | .symBit0 => .frameBit false
  | .symBit1 => .frameBit true
  | .symEnd => .implicit 1 0
  | .forceLow => .implicit 2 0
  | .liAcquire => .lineCall 2 0
  | .liSetLevel l => .lineCall 3 (packFields [1, 2] [l.bit.toNat, 1])
  | .liDelay n => .lineCall (w.dur + 2) (packFields [w.dur, 2] [n, 2])
  | .liRelease => .lineCall 2 3

/-! ### Words numbered as the operation table numbers them (log 14) -/

/-- `nbits` is this width, or this width in whole bytes. -/
def fillsWidth (width nbits : Nat) : Bool := nbits == width || nbits == 8 * ((width + 7) / 8)

/-- A FRAMEBIT and a LINECALL of two or three bits fill less than one byte, so in one whole byte 0 is read as
FRAMEBIT 0, 1 as FRAMEBIT 1, 2 as LINECALL `010` and 3 as LINECALL `11` (DESIGN CHOICE, log 14). -/
def oneByteCode (val : Nat) : Option Code :=
  match val with
  | 0 => some (.frameBit false)
  | 1 => some (.frameBit true)
  | 2 => some (.lineCall 3 2)
  | 3 => some (.lineCall 2 3)
  | _ => none

/-- The code a table word of `nbits` bits stands for: none of them is an operation without bits, taken to
be SYM_START; one bit is a FRAMEBIT; two or three are a LINECALL, and so are `2 + DUR_W`; one bit more than a
record is a CFGREQ; every other width is a TXREQ, whose length its `byte_count` field gives. -/
def tableCode (w : Config.Widths) (nbits val : Nat) : Option Code :=
  if nbits = 0 then some (.implicit 0 0)
  else if nbits = 1 then (if val < 2 then some (.frameBit (val == 1)) else none)
  else if nbits = 2 ∨ nbits = 3 then some (.lineCall nbits val)
  else if nbits = 8 then oneByteCode val
  else if fillsWidth (w.dur + 2) nbits then some (.lineCall (w.dur + 2) val)
  else if fillsWidth (w.record + 1) nbits then some (.cfgReq val)
  else some (.txReq (w.len + w.cnt + 8 * fieldAt [w.len, w.cnt] 1 val) val)

/-- The instruction the decoder reads from a table word, at the widths of the table. -/
def decodeTableWord (nbits w : Nat) : Option Instr :=
  match tableCode Config.defaultWidths nbits w with
  | none => none
  | some c =>
    match decode Config.defaultWidths c with
    | .ok i => some i
    | .error _ => none

end Sys2Proof
end

