-- ==== Sys2Proof/Machine/State.lean ====
section
/-! DEFINITION. The state of the ook-gpio CORE (spec/10_state.md), the inputs its environment has still to
give, the observation of a run (R6), the reasons a step can stop, and the state after reset (R30). -/

namespace Sys2Proof.Machine

/-- Why the machine stops. -/
inductive Fault where
  /-- Raised by the bit fetch of a data slot whose byte index is not below `FRM_CNT`, where `MemRead` is not
  defined (R35). Safe: no run reaches it (R40), and no value is invented. -/
  | frameReadPastCount
  deriving DecidableEq, Repr

/-- Why a step has no meaning. -/
inductive Refusal where
  /-- An instruction exec does not model yet, by its mnemonic. Safe: nothing is claimed of it. -/
  | notModelled (mnemonic : String)
  /-- Raised by SEND with a `byte_count` above `MAX_BYTES`, outside the admitted inputs (R7, U12). Safe. -/
  | requestAboveMaxBytes
  /-- Raised by the reset event while a SEND is in progress, outside the specified behaviour (R144, U11). Safe. -/
  | resetDuringSend
  /-- Raised by a step whose fetched code is no operation: a malformed TXREQ, which the transport must
  reject before it reaches the CORE (R58), a number that is no word of its port (R8), or a slot that R97 says is
  never reached. Safe. -/
  | undecodable (e : DecodeError)
  /-- Raised by a symbol operation, LI_SET_LEVEL, LI_DELAY or LI_RELEASE while no handle is held, when the
  CORE never issues them (R114, R115, R117). Safe: no step fetches one then. -/
  | lineNotHeld
  /-- Raised by LI_ACQUIRE outside state Acquiring, when the CORE never issues it (R113, R117). Safe: no step
  fetches it then. -/
  | notAcquiring
  deriving DecidableEq, Repr

/-- The frame buffer's bytes: strictly rising indices, no listed byte equal to what an unlisted index reads
as (R27, R35; log 13). -/
abbrev Memory := List Host.Cell

/-- What an index no entry lists reads as. Every index below `FRM_CNT` was written when the frame was latched
(R18), so this is how a latched zero byte is held; above it nothing can be read (log 13). -/
def Memory.unlisted : Byte := 0

/-- Entries with strictly rising indices, none of them equal to `Memory.unlisted`. -/
def Memory.wf : Memory → Bool
  | [] => true
  | c :: m => c.2 != Memory.unlisted && m.all (fun d => decide (c.1 < d.1)) && Memory.wf m

/-- A SEND request as a requester issued it (R57). -/
structure SendRequest where
  bitLength : Nat
  byteCount : Nat
  bytes : List Byte
  deriving DecidableEq, Repr, Inhabited

/-- One Line Interface call the sequencer made, with the answer it received (R67). -/
inductive Event where
  | acquireOk
  | acquireErr
  | setLevel (l : Level) (a : CallAnswer)
  | delay (n : Nat) (a : CallAnswer)
  | release
  deriving DecidableEq, Repr, Inhabited

/-- Whose SEND a TXRSP answers: the one that holds the lock, or one turned away while another holds it
(R102; log 11). -/
inductive Requester where
  | lockHolder
  | turnedAway
  deriving DecidableEq, Repr, Inhabited

/-- The result of a host operation (R56, R59). -/
inductive Response where
  | cfgRsp (status : Status) (record : Nat)
  | txRsp (requester : Requester) (status : Status)
  deriving DecidableEq, Repr, Inhabited

/-- One move of an agent: a request on the CFG port, a request on the TX port, the choice of the k-th waiting
SEND (R109), the withdrawal of the k-th waiting SEND (R104), the reset event (R143), or one step of the
sequencer. -/
inductive Turn where
  | cfg (w : Nat)
  | tx (len val : Nat)
  | waiting (k : Nat)
  | withdraw (k : Nat)
  | reset
  | sequencer
  deriving DecidableEq, Repr, Inhabited

/-- The state: what the spec gives the machine (`cfg` to `txWaiting`), the parameters of R7, the inputs to
come (`turns`, `acquireAnswers`, `callAnswers`; log 3, log 4), the index of the next free value (log 19), and
the observation (`trace`, `responses`; log 8), which no step reads. The numbers have the widths `params` gives
(R13, R18, R21), which the invariant keeps (log 1). -/
structure State where
  cfg : TimingConfig
  act : TimingConfig
  frmLen : Nat
  frmCnt : Nat
  frmBytes : Memory
  seqState : SeqState
  lock : Bool
  rep : Nat
  slot : Nat
  phase : Phase
  handle : Option LineHandle
  lineCmd : Level
  txStatus : Status
  txWaiting : List SendRequest
  params : Config.Params
  turns : List Turn
  acquireAnswers : List AcquireAnswer
  callAnswers : List CallAnswer
  draws : Nat
  trace : List Event
  responses : List Response
  deriving DecidableEq, Repr

/-- The machine with parameters `p` right after reset (R30, R143). The registers R30 leaves unspecified hold
the values of log 6. -/
def State.resetWith (p : Config.Params) : State :=
  { cfg := p.cfgReset
    act := Config.cfgResetDefault
    frmLen := 0
    frmCnt := 0
    frmBytes := []
    seqState := .idle
    lock := false
    rep := 0
    slot := 0
    phase := .setFirst
    handle := none
    lineCmd := .low
    txStatus := .ok
    txWaiting := []
    params := p
    turns := []
    acquireAnswers := []
    callAnswers := []
    draws := 0
    trace := []
    responses := [] }

/-- The machine right after reset, with the spec's default parameters (R7, R30). -/
def State.reset : State := State.resetWith Config.defaultParams

end Sys2Proof.Machine
end

