-- ==== Sys2Proof/Machine/Flags.lean ====
section
/-! DEFINITION. The flag-like state of spec/10_state.md R25: LOCK, LINE_CMD and TX_STATUS. The block has no
arithmetic flags and no condition codes. -/

namespace Sys2Proof.Machine

/-- Write LOCK (R20). -/
def State.setLock (s : State) (b : Bool) : State := { s with lock := b }

/-- Write LINE_CMD (R23). -/
def State.setLineCmd (s : State) (l : Level) : State := { s with lineCmd := l }

/-- Write TX_STATUS (R24). -/
def State.setTxStatus (s : State) (t : Status) : State := { s with txStatus := t }

end Sys2Proof.Machine
end

