-- ==== Sys2Proof/Machine/Ops.lean ====
section
/-! DEFINITION. The named operations over the state that the meanings share: the frame buffer, the inputs, the
observation, the Line Interface call, and the entry into and the return from an error. -/

namespace Sys2Proof.Machine

/-- What one step answers. -/
abbrev Result := Host.Outcome State Fault Refusal

/-! ### The frame buffer (R18, R35) -/

/-- The byte at an index of a frame buffer. -/
def Memory.read : Memory → Nat → Byte
  | [], _ => Memory.unlisted
  | c :: m, k => if c.1 = k then c.2 else Memory.read m k

/-- The buffer that holds `bytes` at indices `base`, `base + 1`, and so on. -/
def Memory.ofBytesFrom : Nat → List Byte → Memory
  | _, [] => []
  | base, b :: bs =>
    if b = Memory.unlisted then Memory.ofBytesFrom (base + 1) bs
    else (base, b) :: Memory.ofBytesFrom (base + 1) bs

/-- The buffer that holds `bytes` from index 0. -/
def Memory.ofBytes (bytes : List Byte) : Memory := Memory.ofBytesFrom 0 bytes

/-- `MemRead(idx, 1)`: defined only below `FRM_CNT` (R9, R35). -/
def State.memRead (s : State) (idx : Nat) : Except Fault Byte :=
  if idx < s.frmCnt then .ok (Memory.read s.frmBytes idx) else .error .frameReadPastCount

/-- Latch a request's frame whole (R18, R90). -/
def State.latchFrame (s : State) (bitLength : Nat) (byteCount : Nat) (bytes : List Byte) : State :=
  { s with frmLen := bitLength, frmCnt := byteCount, frmBytes := Memory.ofBytes bytes }

/-! ### Registers of the sequencer -/

/-- Replace CFG whole (R42, R73). -/
def State.setCfg (s : State) (c : TimingConfig) : State := { s with cfg := c }

/-- Write SEQ.state (R19). -/
def State.setSeqState (s : State) (q : SeqState) : State := { s with seqState := q }

/-- `seq <- (r, s, p)` (R9, R21). -/
def State.setSeq (s : State) (rep slot : Nat) (phase : Phase) : State :=
  { s with rep := rep, slot := slot, phase := phase }

/-- Write HANDLE (R22). -/
def State.setHandle (s : State) (h : Option LineHandle) : State := { s with handle := h }

/-- `ACT <- CFG`, all ten fields (R93). -/
def State.snapshot (s : State) : State := { s with act := s.cfg }

/-- The dead registers' next free contents, at the machine's widths (U7; log 5). -/
def State.deadRegs (s : State) : Config.DeadRegs := (Config.deadRegs s.draws).clip s.params.widths

/-- ACT, FRM_* and the position after the step that ends their live range: unspecified, so free values
(R17, R18, R31, R130, U7; log 5). -/
def State.discard (s : State) : State :=
  { s with
    act := s.deadRegs.act
    frmLen := s.deadRegs.frmLen
    frmCnt := s.deadRegs.frmCnt
    frmBytes := Memory.ofBytes s.deadRegs.frmBytes
    rep := s.deadRegs.rep
    slot := s.deadRegs.slot
    phase := s.deadRegs.phase
    draws := s.draws + 1 }

/-! ### Requests waiting at the TX port (R28, R102, R104) -/

/-- A requester holds its request at the not-ready TX port (R102). -/
def State.holdRequest (s : State) (r : SendRequest) : State := { s with txWaiting := s.txWaiting ++ [r] }

/-- The k-th waiting request leaves the port: accepted or withdrawn (R104, R109). -/
def State.dropWaiting (s : State) (k : Nat) : State := { s with txWaiting := s.txWaiting.eraseIdx k }

/-! ### Inputs (log 3, log 4) -/

/-- Whose move it is; where none is listed no host acts and the sequencer moves (log 3). -/
def State.turn (s : State) : Turn := s.turns.headD .sequencer

/-- The move has been made. -/
def State.popTurn (s : State) : State := { s with turns := s.turns.tail }

/-- The Line Interface's answer to an LI_ACQUIRE made now (R119). -/
def State.acquireAnswer (s : State) : AcquireAnswer :=
  s.acquireAnswers.headD (Config.freeAcquireAnswer s.draws)

/-- The Line Interface's answer to an LI_SET_LEVEL or LI_DELAY made now (R119). -/
def State.callAnswer (s : State) : CallAnswer := s.callAnswers.headD (Config.freeCallAnswer s.draws)

/-- An answer to LI_ACQUIRE has been given. -/
def State.tookAcquireAnswer (s : State) : State :=
  { s with acquireAnswers := s.acquireAnswers.tail, draws := s.draws + 1 }

/-- An answer to LI_SET_LEVEL or LI_DELAY has been given. -/
def State.tookCallAnswer (s : State) : State :=
  { s with callAnswers := s.callAnswers.tail, draws := s.draws + 1 }

/-- A free value has been drawn. -/
def State.drew (s : State) : State := { s with draws := s.draws + 1 }

/-! ### The observation (R6) -/

/-- The call trace gains an event (R67). -/
def State.log (s : State) (e : Event) : State := { s with trace := s.trace ++ [e] }

/-- A response is delivered (R56, R59). -/
def State.respond (s : State) (r : Response) : State := { s with responses := s.responses ++ [r] }

/-! ### Errors of SEND: entry and return -/

/-- Entry without line activity: TX_STATUS records the error, the sequencer goes to Failed (R91, R92). -/
def State.fail (s : State) (t : Status) : State := (s.setTxStatus t).setSeqState .failed

/-- Entry of LineFault, the abort sequence (R130): LI_SET_LEVEL(Low), its answer ignored; LI_RELEASE; HANDLE
none; LINE_CMD Low; TX_STATUS LineFault; Failed; the position, ACT and FRM_* dead. -/
def State.abort (s : State) : State :=
  ((((s.tookCallAnswer.log (.setLevel .low s.callAnswer)).log .release).setHandle none).setLineCmd .low).fail
    .lineFault |>.discard

/-- Return from an error, the step of state Failed (R103, R131): TX_STATUS is delivered, LOCK freed, Idle.
After it TX_STATUS is dead (R124, U7; log 20). -/
def State.deliverFailure (s : State) : State :=
  (((s.respond (.txRsp .lockHolder s.txStatus)).setLock false).setSeqState .idle).setTxStatus
    s.deadRegs.txStatus |>.discard

/-! ### The end of a SEND without error -/

/-- The release step: LI_RELEASE, HANDLE none, TX_STATUS Ok, LOCK freed, Idle, TXRSP(Ok), all in one step
(R98). After it ACT, FRM_* and the position are dead (R31). -/
def State.finishSend (s : State) : State :=
  (((((s.log .release).setHandle none).setTxStatus .ok).setLock false).setSeqState .idle).respond
    (.txRsp .lockHolder .ok) |>.discard

/-! ### Line Interface calls (R47, R114, R115) -/

/-- A call with an `Ok` or `Fault` answer. -/
inductive LineCall where
  | setLevel (l : Level)
  | delay (n : Nat)
  deriving DecidableEq, Repr, Inhabited

/-- The call's event in the trace (R67). -/
def LineCall.event : LineCall → CallAnswer → Event
  | .setLevel l, a => .setLevel l a
  | .delay n, a => .delay n a

/-- What the CORE writes when the call answers `Ok` (R114, R115). -/
def LineCall.effect : LineCall → State → State
  | .setLevel l, s => s.setLineCmd l
  | .delay _, s => s

/-- The call has been made and answered. -/
def State.issue (s : State) (c : LineCall) : State := s.tookCallAnswer.log (c.event s.callAnswer)

/-- The state after a call: on `Ok` its effect and then `onOk`, on `Fault` the abort (R80, R97, R129). -/
def State.afterCall (c : LineCall) (onOk : State → State) (s : State) : State :=
  match s.callAnswer with
  | .ok => onOk (c.effect (s.issue c))
  | .fault => (s.issue c).abort

/-- One call on the held handle; without a handle the CORE makes none (R117). -/
def performCall (c : LineCall) (onOk : State → State) (s : State) : Result :=
  match s.handle with
  | none => .refused .lineNotHeld
  | some _ => .next (s.afterCall c onOk)

/-! ### The reset event (R143) -/

/-- Every element of R30 at its reset value. The parameters, the requests requesters hold, the inputs to come
and the observation are not the block's to reset (log 17). -/
def State.resetEvent (s : State) : State :=
  { State.resetWith s.params with
    txWaiting := s.txWaiting
    turns := s.turns
    acquireAnswers := s.acquireAnswers
    callAnswers := s.callAnswers
    draws := s.draws
    trace := s.trace
    responses := s.responses }

end Sys2Proof.Machine
end

