-- ==== Sys2Proof/Machine/Operands.lean ====
section
/-! DEFINITION. Every operand form: the frame bit (spec/20_memory.md R36), a symbol's duration pair
(spec/30_encoding.md R62), the four calls of EMIT (spec/41_symbol_ops.md R79, R80), and the code the
position selects (spec/42_send.md R97). -/

namespace Sys2Proof.Machine

/-- `FrameBit(i)`: bit `7 - (i mod 8)` of the byte at index `i / 8` (R36). -/
def State.frameBit (s : State) (i : Nat) : Except Fault Bool :=
  match s.memRead (i / 8) with
  | .error f => .error f
  | .ok b => .ok (b.getLsbD (7 - i % 8))

/-- Phase `p` of `EMIT(h, l, f)` (R79, R80). -/
def emitCall (h l : Nat) : BitFormat → Phase → LineCall
  | .highThenLow, .setFirst => .setLevel .high
  | .highThenLow, .holdFirst => .delay h
  | .highThenLow, .setSecond => .setLevel .low
  | .highThenLow, .holdSecond => .delay l
  | .lowThenHigh, .setFirst => .setLevel .low
  | .lowThenHigh, .holdFirst => .delay l
  | .lowThenHigh, .setSecond => .setLevel .high
  | .lowThenHigh, .holdSecond => .delay h

/-- The position after a call of EMIT answered `Ok`: the next phase, or the next slot (R80, R97). -/
def State.advance (s : State) : State :=
  match s.phase with
  | .setFirst => s.setSeq s.rep s.slot .holdFirst
  | .holdFirst => s.setSeq s.rep s.slot .setSecond
  | .setSecond => s.setSeq s.rep s.slot .holdSecond
  | .holdSecond => s.setSeq s.rep (s.slot + 1) .setFirst

/-- The position after FORCE_LOW answered `Ok`: the next repetition (R85, R97). -/
def State.nextRepetition (s : State) : State := s.setSeq (s.rep + 1) 0 .setFirst

/-- One sequencer step of EMIT with the durations `h` and `l` and the snapshot's format (R80). -/
def emitStep (h l : Nat) (s : State) : Result :=
  performCall (emitCall h l s.act.format s.phase) State.advance s

/-- The code of the symbol operation the slot selects: a frame bit in slots 1 to `FRM_LEN`, no bits in the
others (R60, R61, R97). -/
def State.symbolCode (s : State) : Except Fault Code :=
  if 1 ≤ s.slot ∧ s.slot ≤ s.frmLen then
    match s.frameBit (s.slot - 1) with
    | .error f => .error f
    | .ok b => .ok (.frameBit b)
  else .ok (.implicit s.slot s.frmLen)

end Sys2Proof.Machine
end

