-- ==== Sys2Proof/Machine/ConfigOps.lean ====
section
/-! DEFINITION. READ_CONFIG and SET_CONFIG (spec/40_config_ops.md). -/

namespace Sys2Proof.Machine

/-- READ_CONFIG: respond `(Ok, CFG)`; no other state is written (R74). -/
def execReadConfig (s : State) : Result := .next (s.respond (.cfgRsp .ok (s.cfg.toRaw.pack s.params.widths)))

/-- The record part of a SET_CONFIG response is not meaningful: a free value (R56, U13; log 7). -/
def State.respondSetConfig (s : State) (t : Status) : State :=
  (s.respond (.cfgRsp t (Config.freeRecord s.draws % 2 ^ s.params.widths.record))).drew

/-- SET_CONFIG: replace CFG whole, or reject a candidate whose format is neither variant and change nothing
of it (R73, R125). -/
def execSetConfig (candidate : RawConfig) (s : State) : Result :=
  match candidate.validate with
  | none => .next (s.respondSetConfig .invalidFormat)
  | some c => .next ((s.setCfg c).respondSetConfig .ok)

end Sys2Proof.Machine
end

