-- ==== Sys2Proof/Machine/LineOps.lean ====
section
/-! DEFINITION. The four Line Interface calls (spec/43_line_interface.md). -/

namespace Sys2Proof.Machine

/-- The line is acquired: HANDLE, the snapshot, the position (0, 0, 0), Sending (R92, R93). -/
def State.beginSending (s : State) (h : LineHandle) : State :=
  (((s.setHandle (some h)).snapshot).setSeq 0 0 .setFirst).setSeqState .sending

/-- The acquisition step, by the Line Interface's answer (R92, R113, R128). -/
def State.afterAcquire (s : State) : State :=
  match s.acquireAnswer with
  | .ok h => (s.tookAcquireAnswer.log .acquireOk).beginSending h
  | .err => (s.tookAcquireAnswer.log .acquireErr).fail .lineUnavailable

/-- LI_ACQUIRE, issued in state Acquiring only (R113). -/
def execLiAcquire (s : State) : Result :=
  if s.seqState = .acquiring then .next s.afterAcquire else .refused .notAcquiring

/-- LI_SET_LEVEL on the held handle: on `Ok` LINE_CMD is the level, on `Fault` the abort (R114, R129). The
position is the symbol operation's to advance (log 9). -/
def execLiSetLevel (l : Level) (s : State) : Result := performCall (.setLevel l) id s

/-- LI_DELAY: on `Ok` nothing but the trace changes, on `Fault` the abort (R115, R129). -/
def execLiDelay (n : Nat) (s : State) : Result := performCall (.delay n) id s

/-- LI_RELEASE on the held handle: the release step, which cannot fail (R98, R116). -/
def execLiRelease (s : State) : Result :=
  match s.handle with
  | none => .refused .lineNotHeld
  | some _ => .next s.finishSend

end Sys2Proof.Machine
end

