-- ==== Sys2Proof/Machine/SendOps.lean ====
section
/-! DEFINITION. SEND at the TX port: acceptance, the bit-length check, and a SEND that meets another
(spec/42_send.md R89 to R91, R102). -/

namespace Sys2Proof.Machine

/-- The bit-length check, in naturals so that `8 * FRM_CNT` does not wrap (R91, R108). -/
def lengthExceeds (bitLength : Nat) (byteCount : Nat) : Bool :=
  decide (8 * byteCount < bitLength)

/-- The accepting step: the frame is latched, LOCK is set, and the length is checked (R90, R91). -/
def State.acceptSend (s : State) (bitLength : Nat) (byteCount : Nat) (bytes : List Byte) : State :=
  if lengthExceeds bitLength byteCount then
    ((s.latchFrame bitLength byteCount bytes).setLock true).fail .invalidBitLength
  else ((s.latchFrame bitLength byteCount bytes).setLock true).setSeqState .acquiring

/-- A SEND issued while another is in progress: held by its requester under `Block`, answered at once with
LineUnavailable under `Reject` (R102). -/
def State.meetBusy (s : State) (r : SendRequest) : State :=
  match s.params.busyPolicy with
  | .block => s.holdRequest r
  | .reject => s.respond (.txRsp .turnedAway .lineUnavailable)

/-- SEND at the TX port: outside the admitted inputs above `MAX_BYTES` (R7, U12), accepted in Idle (R90),
else R102. -/
def execSend (bitLength : Nat) (byteCount : Nat) (bytes : List Byte) (s : State) : Result :=
  if s.params.maxBytes < byteCount then .refused .requestAboveMaxBytes
  else if s.seqState = .idle then .next (s.acceptSend bitLength byteCount bytes)
  else .next (s.meetBusy { bitLength := bitLength, byteCount := byteCount, bytes := bytes })

end Sys2Proof.Machine
end

