-- ==== Sys2Proof/Machine/SymbolOps.lean ====
section
/-! DEFINITION. The symbol operations (spec/41_symbol_ops.md): each is one sequencer step, the phase of EMIT
that `SEQ.phase` names (R80; log 9), with the durations of the snapshot ACT (R62). -/

namespace Sys2Proof.Machine

/-- SYM_START: a phase of `EMIT(ACT.start_high, ACT.start_low, ACT.format)` (R81). -/
def execSymStart (s : State) : Result := emitStep s.act.startHigh s.act.startLow s

/-- SYM_BIT0: a phase of `EMIT(ACT.bit0_high, ACT.bit0_low, ACT.format)` (R82). -/
def execSymBit0 (s : State) : Result := emitStep s.act.bit0High s.act.bit0Low s

/-- SYM_BIT1: a phase of `EMIT(ACT.bit1_high, ACT.bit1_low, ACT.format)` (R83). -/
def execSymBit1 (s : State) : Result := emitStep s.act.bit1High s.act.bit1Low s

/-- SYM_END: a phase of `EMIT(ACT.end_high, ACT.end_low, ACT.format)` (R84). -/
def execSymEnd (s : State) : Result := emitStep s.act.endHigh s.act.endLow s

/-- FORCE_LOW: `LineSet(Low)` whatever the format, no delay, and the repetition is counted (R85). -/
def execForceLow (s : State) : Result := performCall (.setLevel .low) State.nextRepetition s

end Sys2Proof.Machine
end

