-- ==== Sys2Proof/Machine/Dispatch.lean ====
section
/-! DEFINITION. Which meaning each operation of spec/opcode_table.json has. -/

namespace Sys2Proof.Machine

def exec (i : Instr) (s : State) : Host.Outcome State Fault Refusal :=
  match i with
  | .readConfig => Sys2Proof.Machine.execReadConfig s
  | .setConfig candidate => Sys2Proof.Machine.execSetConfig candidate s
  | .send bitLength byteCount bytes => Sys2Proof.Machine.execSend bitLength byteCount bytes s
  | .symStart => Sys2Proof.Machine.execSymStart s
  | .symBit0 => Sys2Proof.Machine.execSymBit0 s
  | .symBit1 => Sys2Proof.Machine.execSymBit1 s
  | .symEnd => Sys2Proof.Machine.execSymEnd s
  | .forceLow => Sys2Proof.Machine.execForceLow s
  | .liAcquire => Sys2Proof.Machine.execLiAcquire s
  | .liSetLevel l => Sys2Proof.Machine.execLiSetLevel l s
  | .liDelay n => Sys2Proof.Machine.execLiDelay n s
  | .liRelease => Sys2Proof.Machine.execLiRelease s

end Sys2Proof.Machine
end

