-- ==== Sys2Proof/Machine/Agents.lean ====
section
/-! DEFINITION. How each agent's move finds its operation and runs it (spec/00_scope.md R5, spec/42_send.md
R99), and how a table word is placed where the next step fetches it (log 14). -/

namespace Sys2Proof.Machine

/-- Decode a code and run its operation. -/
def runCode (c : Code) (s : State) : Result :=
  match decode s.params.widths c with
  | .ok i => exec i s
  | .error e => .refused (.undecodable e)

/-- One step of the sequencer (R19, R92, R94, R97, R98, R103). In Idle it has none: the block waits. -/
def sequencerStep (s : State) : Result :=
  match s.seqState with
  | .idle => .next s
  | .acquiring => runCode (.lineCall 2 0) s
  | .sending =>
    if s.rep = s.act.repeatCount then runCode (.lineCall 2 3) s
    else
      match s.symbolCode with
      | .error f => .fault f
      | .ok c => runCode c s
  | .failed => .next s.deliverFailure

/-- The k-th waiting SEND is presented to the TX port: accepted when the port is ready; otherwise, or where
there is no such request, nothing happens (R102, R109). -/
def presentWaiting (k : Nat) (s : State) : Result :=
  match s.txWaiting[k]? with
  | none => .next s
  | some r =>
    if s.seqState = .idle then exec (.send r.bitLength r.byteCount r.bytes) (s.dropWaiting k)
    else .next s

/-- The reset event, given a step in Idle only (R143, R144). -/
def resetTurn (s : State) : Result :=
  if s.seqState = .idle then .next s.resetEvent else .refused .resetDuringSend

/-- One agent's move (R5, R44). -/
def runTurn (t : Turn) (s : State) : Result :=
  match t with
  | .cfg w => runCode (.cfgReq w) s
  | .tx len val => runCode (.txReq len val) s
  | .waiting k => presentWaiting k s
  | .withdraw k => .next (s.dropWaiting k)
  | .reset => resetTurn s
  | .sequencer => sequencerStep s

/-! ### Placing a code (log 14) -/

/-- The sequencer moves next, the line is held in a SEND, and the next call answers `Ok`. -/
def State.placeSending (s : State) : State :=
  { s with
    turns := .sequencer :: s.turns
    seqState := .sending
    lock := true
    handle := some 0
    callAnswers := .ok :: s.callAnswers }

/-- A SEND of one repetition is at a slot of a frame of no more than one byte. -/
def State.placeSlot (s : State) (slot : Nat) (frmLen : Nat) (bytes : List Byte) : State :=
  ({ s with act := { s.act with repeatCount := 1 } }.latchFrame frmLen
    bytes.length bytes).setSeq 0 slot .setFirst |>.placeSending

/-- An operation of the Line Interface is the call the sequencer makes next. -/
def State.placeLineCall (s : State) (i : Instr) : State :=
  match i with
  | .liAcquire =>
    { s with
      turns := .sequencer :: s.turns
      seqState := .acquiring
      lock := true
      acquireAnswers := .ok 0 :: s.acquireAnswers }
  | .liRelease => ({ s with act := { s.act with repeatCount := 0 } }.setSeq 0 0 .setFirst).placeSending
  | .liSetLevel .low =>
    { s with act := { s.act with format := .lowThenHigh } }.placeSlot 0 0 []
  | .liSetLevel .high =>
    { s with act := { s.act with format := .highThenLow } }.placeSlot 0 0 []
  | .liDelay n =>
    let t := { s with act := { s.act with startHigh := n, format := .highThenLow } }.placeSlot 0 0 []
    t.setSeq 0 0 .holdFirst
  | _ => s

/-- The state in which the next step fetches the code `c` and runs it. -/
def State.placeCode (s : State) (c : Code) : State :=
  match c with
  | .cfgReq w => { s with turns := .cfg w :: s.turns }
  | .txReq len val => { s with turns := .tx len val :: s.turns }
  | .frameBit b => s.placeSlot 1 1 [if b then 0x80 else 0]
  | .implicit slot frmLen => s.placeSlot slot frmLen []
  | .lineCall len val =>
    match decodeLineCall s.params.widths len val with
    | .ok i => s.placeLineCall i
    | .error _ => s

/-- A table word placed for the next step; where it is no word of the table, nothing is placed. -/
def State.placeTableWord (s : State) (nbits w : Nat) : State :=
  match tableCode s.params.widths nbits w with
  | none => s
  | some c => s.placeCode c

end Sys2Proof.Machine
end

