-- ==== Sys2Proof/Machine/Step.lean ====
section
/-! DEFINITION. One step of the machine (spec/00_scope.md R5). -/

namespace Sys2Proof.Machine

/-- One step: the agent whose turn it is makes its move. -/
def step (s : State) : Host.Outcome State Fault Refusal := runTurn s.turn s.popTurn

/-- The state with a table word where the next step fetches (log 14). -/
def State.withFetchWord (s : State) (nbits w : Nat) : State := s.placeTableWord nbits w

end Sys2Proof.Machine
end

