-- ==== Sys2Proof/Safety.lean ====
section
/-! DEFINITION. What counts as a safe run, in the terms the statements use: the invariant of the state, the call
discipline the CORE owes the Line Interface (spec/43_line_interface.md R117), and the big-step form of a SEND
(spec/42_send.md R106). -/

namespace Sys2Proof.Machine

/-! ### The call discipline (R112, R117) -/

/-- How the line is in use after a trace: not held; held and no level freshly set; held with a level just set
(so that a delay may follow); a call has faulted (so that the forced low must follow); the forced low of the
abort has been issued (so that the release must follow). -/
inductive LineUse where
  | released
  | held
  | levelSet
  | faulted
  | aborting
  deriving DecidableEq, Repr

/-- The use of the line after a call that answered: `ok` where it answered `Ok`, else a fault. -/
def LineUse.answered (ok : LineUse) : CallAnswer → LineUse
  | .ok => ok
  | .fault => .faulted

/-- After one more event while the line is not held: only an acquisition. -/
def LineUse.afterReleased : Event → Option LineUse
  | .acquireOk => some .held
  | .acquireErr => some .released
  | .setLevel _ _ => none
  | .delay _ _ => none
  | .release => none

/-- After one more event while the line is held and no level is freshly set: no delay. -/
def LineUse.afterHeld : Event → Option LineUse
  | .acquireOk => none
  | .acquireErr => none
  | .setLevel _ a => some (LineUse.levelSet.answered a)
  | .delay _ _ => none
  | .release => some .released

/-- After one more event while a level has just been set. -/
def LineUse.afterLevelSet : Event → Option LineUse
  | .acquireOk => none
  | .acquireErr => none
  | .setLevel _ a => some (LineUse.levelSet.answered a)
  | .delay _ a => some (LineUse.held.answered a)
  | .release => some .released

/-- After one more event when a call has faulted: only the forced low. -/
def LineUse.afterFaulted : Event → Option LineUse
  | .acquireOk => none
  | .acquireErr => none
  | .setLevel l _ => if l = .low then some .aborting else none
  | .delay _ _ => none
  | .release => none

/-- After one more event when the forced low of the abort has been issued: only the release. -/
def LineUse.afterAborting : Event → Option LineUse
  | .acquireOk => none
  | .acquireErr => none
  | .setLevel _ _ => none
  | .delay _ _ => none
  | .release => some .released

/-- The use of the line after one more event, none where R117 forbids the event. -/
def LineUse.after : LineUse → Event → Option LineUse
  | .released => LineUse.afterReleased
  | .held => LineUse.afterHeld
  | .levelSet => LineUse.afterLevelSet
  | .faulted => LineUse.afterFaulted
  | .aborting => LineUse.afterAborting

/-- The use of the line after a whole call trace, none where it breaks R117 anywhere. -/
def lineUse (trace : List Event) : Option LineUse :=
  trace.foldl (fun u e => u.bind (fun v => v.after e)) (some .released)

/-- The phases whose call is LI_DELAY (R80). -/
def holdsNext : Phase → Bool
  | .setFirst => false
  | .holdFirst => true
  | .setSecond => false
  | .holdSecond => true

/-- The trace keeps the call discipline, the line is held exactly in Sending, and a level has just been set
where a delay comes next (R22, R117). -/
def State.disciplined (s : State) : Bool :=
  match lineUse s.trace with
  | none => false
  | some u =>
    if s.seqState = .sending then decide (u = .levelSet) || (decide (u = .held) && !(holdsNext s.phase))
    else decide (u = .released)

/-! ### The invariant -/

/-- The position of a SEND in progress (R21, R97, R108): repetitions and slots in range, one call only in the
forced-low slot, the release point at slot 0, and the level Low wherever a repetition begins (R23). -/
structure State.PositionInv (s : State) : Prop where
  repInRange : s.rep ≤ s.act.repeatCount
  slotInRange : s.slot ≤ s.frmLen + 2
  forcedLowHasOnePhase : s.slot = s.frmLen + 2 → s.phase = .setFirst
  releaseAtStart : s.rep = s.act.repeatCount → s.slot = 0 ∧ s.phase = .setFirst
  lowAtStart : s.slot = 0 → s.phase = .setFirst → s.lineCmd = .low

/-- Every register whose width is a parameter fits it (R8, R13, R17, R18, R21, R108). -/
structure State.WidthInv (s : State) : Prop where
  cfg : s.cfg.fits s.params.widths = true
  act : s.act.fits s.params.widths = true
  frmLen : s.frmLen < 2 ^ s.params.widths.len
  frmCnt : s.frmCnt < 2 ^ s.params.widths.cnt
  rep : s.rep < 2 ^ (s.params.widths.rep + 1)
  slot : s.slot < 2 ^ (s.params.widths.len + 2)

/-- What every step keeps, from any state that has it. -/
structure State.Inv (s : State) : Prop where
  /-- The frame buffer is in its canonical form. -/
  memory : Memory.wf s.frmBytes = true
  /-- LOCK is 1 exactly when the sequencer is not Idle (R20). -/
  lockIsBusy : s.lock = decide (s.seqState ≠ .idle)
  /-- A handle is held exactly in Sending (R22). -/
  handleWhileSending : s.handle.isSome = decide (s.seqState = .sending)
  /-- LINE_CMD is Low unless a SEND is playing (R23, R103). -/
  lowUnlessSending : s.seqState ≠ .sending → s.lineCmd = .low
  /-- An accepted frame has passed the length check (R91). -/
  lengthChecked : s.seqState = .acquiring ∨ s.seqState = .sending → s.frmLen ≤ 8 * s.frmCnt
  /-- An accepted frame has no byte at or above FRM_CNT (R18). -/
  frameInCount : s.seqState = .acquiring ∨ s.seqState = .sending →
    ∀ c ∈ s.frmBytes, c.1 < s.frmCnt
  /-- The position of a SEND in progress is one R97 reaches. -/
  position : s.seqState = .sending → s.PositionInv
  /-- The parameters are ones R7 admits. -/
  params : s.params.admitted = true
  /-- Every register fits its width. -/
  widths : s.WidthInv
  /-- In Failed, TX_STATUS is an error of SEND (R19, R123). -/
  failedStatus : s.seqState = .failed →
    s.txStatus = .invalidBitLength ∨ s.txStatus = .lineUnavailable ∨ s.txStatus = .lineFault
  /-- A waiting request is as its requester issued it (R28, R57). -/
  waiting : ∀ r ∈ s.txWaiting, sendFits s.params.widths r.bitLength r.byteCount r.bytes = true
  /-- The call trace keeps the discipline (R112, R117). -/
  discipline : s.disciplined = true

/-! ### Outcomes and edges -/

/-- An outcome with its next state, if it has one, changed. -/
def mapNext (f : State → State) : Result → Result
  | .next t => .next (f t)
  | .fault e => .fault e
  | .refused r => .refused r

/-- A call trace and responses put before those of a state. -/
def State.precededBy (s : State) (es : List Event) (rs : List Response) : State :=
  { s with trace := es ++ s.trace, responses := rs ++ s.responses }

/-! ### Pulses and the big-step form (R68, R87, R106) -/

/-- One entry of a pulse list: a level and how long it was held (R10). -/
structure Pulse where
  level : Level
  duration : Nat
  deriving DecidableEq, Repr

/-- The pulse list of a call trace (R68). -/
def pulses : List Event → List Pulse
  | .setLevel l _ :: .delay n _ :: es => ⟨l, n⟩ :: pulses es
  | .setLevel l _ :: es => ⟨l, 0⟩ :: pulses es
  | _ :: es => pulses es
  | [] => []

/-- The pulses of one symbol (R87). -/
def symPulses (f : BitFormat) (h l : Nat) : List Pulse :=
  match f with
  | .highThenLow => [⟨.high, h⟩, ⟨.low, l⟩]
  | .lowThenHigh => [⟨.low, l⟩, ⟨.high, h⟩]

/-- The pulses of the symbol of one frame bit (R106). -/
def bitPulses (c : TimingConfig) (b : Bool) : List Pulse :=
  if b then symPulses c.format c.bit1High c.bit1Low else symPulses c.format c.bit0High c.bit0Low

/-- The pulses of one repetition (R106). -/
def repPulses (c : TimingConfig) (bits : List Bool) : List Pulse :=
  symPulses c.format c.startHigh c.startLow ++ bits.flatMap (bitPulses c)
    ++ symPulses c.format c.endHigh c.endLow ++ [⟨.low, 0⟩]

/-- The pulses of a SEND that meets no error (R106). -/
def sendPulses (c : TimingConfig) (bits : List Bool) : List Pulse :=
  (List.replicate c.repeatCount (repPulses c bits)).flatten

/-- The calls of one symbol, all answered `Ok` (R79). -/
def symEvents (f : BitFormat) (h l : Nat) : List Event :=
  match f with
  | .highThenLow => [.setLevel .high .ok, .delay h .ok, .setLevel .low .ok, .delay l .ok]
  | .lowThenHigh => [.setLevel .low .ok, .delay l .ok, .setLevel .high .ok, .delay h .ok]

/-- The calls of the symbol of one frame bit (R60, R79). -/
def bitEvents (c : TimingConfig) (b : Bool) : List Event :=
  if b then symEvents c.format c.bit1High c.bit1Low else symEvents c.format c.bit0High c.bit0Low

/-- The calls of one repetition (R95). -/
def repEvents (c : TimingConfig) (bits : List Bool) : List Event :=
  symEvents c.format c.startHigh c.startLow ++ bits.flatMap (bitEvents c)
    ++ symEvents c.format c.endHigh c.endLow ++ [.setLevel .low .ok]

/-- The calls of a SEND that meets no error, between its LI_ACQUIRE and its LI_RELEASE (R106). -/
def sendEvents (c : TimingConfig) (bits : List Bool) : List Event :=
  (List.replicate c.repeatCount (repEvents c bits)).flatten

/-- The bits of the latched frame, in the order in which they are sent (R36). -/
def State.frameBits (s : State) : List Bool :=
  (List.range s.frmLen).map (fun i => (Memory.read s.frmBytes (i / 8)).getLsbD (7 - i % 8))

/-- The duration pair of a symbol operation, high first (R62). -/
def symbolDurations (c : TimingConfig) : Instr → Option (Nat × Nat)
  | .symStart => some (c.startHigh, c.startLow)
  | .symBit0 => some (c.bit0High, c.bit0Low)
  | .symBit1 => some (c.bit1High, c.bit1Low)
  | .symEnd => some (c.endHigh, c.endLow)
  | _ => none

end Sys2Proof.Machine
end

