-- ==== Sys2Proof/Certificates/Slice0/Obligations.lean ====
section
/-! DEFINITION. The statements for the provers. A record update names every field an operation writes; every field
it does not name is unchanged, so each equation is a result and its frame. Free values (log 4, log 5, log 7) are
quantified or appear as they are drawn; no statement rests on one. -/

open Sys2Proof Sys2Proof.Machine

/-! ### Parameters (spec/00_scope.md R7) -/

/-- The values R7 takes for its parameters are those of the machine at reset, and R7 admits them. The two it leaves
OPEN, `MAX_BYTES` and `DELAY_RES`, are not named (log 2, log 18). -/
def Obligations.ParameterDefaults : Prop :=
  State.reset.params.widths.dur = 32 ∧ State.reset.params.widths.rep = 32 ∧ State.reset.params.widths.len = 32 ∧
  State.reset.params.widths.cnt = 32 ∧ State.reset.params.widths.fmt = 8 ∧
  State.reset.params.busyPolicy = .block ∧
  State.reset.params.cfgReset =
    { startHigh := 0, startLow := 0, endHigh := 0, endLow := 0, bit0High := 0, bit0Low := 0, bit1High := 0,
      bit1Low := 0, format := .highThenLow, repeatCount := 0 } ∧
  State.reset.params.admitted = true

/-! ### Encoding (spec/30_encoding.md), at every width -/

/-- Words written out in spec/95_test_vectors.md V5, V6, V17 and in R60 and R66 decode to what they stand for, at the
default widths. -/
def Obligations.WordsOfTheSpecDecode : Prop :=
  decode Config.defaultWidths
      (.cfgReq 0x10000000200000000140000003c0000003c0000001400000028000000500000003200000064)
      = .ok (.setConfig
          { startHigh := 100, startLow := 50, endHigh := 80, endLow := 40, bit0High := 20, bit0Low := 60,
            bit1High := 60, bit1Low := 20, format := 0, repeatCount := 2 }) ∧
  decode Config.defaultWidths (.cfgReq 0) = .ok .readConfig ∧
  decode Config.defaultWidths (.txReq 80 0xc05a000000020000000c) = .ok (.send 12 2 [0x5a, 0xc0]) ∧
  decode Config.defaultWidths (.frameBit false) = .ok .symBit0 ∧
  decode Config.defaultWidths (.frameBit true) = .ok .symBit1 ∧
  decode Config.defaultWidths (.lineCall 2 0b00) = .ok .liAcquire ∧
  decode Config.defaultWidths (.lineCall 2 0b11) = .ok .liRelease ∧
  decode Config.defaultWidths (.lineCall 3 0b010) = .ok (.liSetLevel .low) ∧
  decode Config.defaultWidths (.lineCall 34 0b1000000000000000000000000001100100) = .ok (.liDelay 100)

/-- Level codes: `Low = 0`, `High = 1` (R65). -/
def Obligations.LevelCodes : Prop :=
  Level.ofBit false = .low ∧ Level.ofBit true = .high ∧
  (∀ l : Level, Level.ofBit l.bit = l) ∧
  ∀ (w : Config.Widths) (v : Nat), v < 2 →
    decode w (.lineCall 3 (2 + v)) = .ok (.liSetLevel (if v = 0 then .low else .high))

/-- For every well-formed instruction, decoding its encoding gives it back, at every width: no bit of an operand is
dropped. -/
def Obligations.DecodeEncodeAgree : Prop :=
  ∀ (w : Config.Widths) (i : Instr), i.wellFormed w = true → decode w (encode w i) = .ok i

/-- The decoder makes well-formed instructions only. -/
def Obligations.DecodedIsWellFormed : Prop :=
  ∀ (w : Config.Widths) (c : Code) (i : Instr), decode w c = .ok i → i.wellFormed w = true

/-- Where words determine the instruction whole they are its one encoding: a SET_CONFIG request, a TXREQ, a
frame bit and a LINECALL encode back to themselves. -/
def Obligations.EncodeDecodeAgree : Prop :=
  ∀ w : Config.Widths,
    (∀ (word : Nat) (c : RawConfig), decode w (.cfgReq word) = .ok (.setConfig c) →
      encode w (.setConfig c) = .cfgReq word) ∧
    (∀ (len val : Nat) (i : Instr), decode w (.txReq len val) = .ok i → encode w i = .txReq len val) ∧
    (∀ (b : Bool) (i : Instr), decode w (.frameBit b) = .ok i → encode w i = .frameBit b) ∧
    ∀ (len val : Nat) (i : Instr), decode w (.lineCall len val) = .ok i → encode w i = .lineCall len val

/-- The record of a READ_CONFIG request is ignored (R56): with the bit above the record 0, every request is a
READ_CONFIG. -/
def Obligations.ReadConfigRecordIgnored : Prop :=
  ∀ (w : Config.Widths) (record : Nat), record < 2 ^ w.record → decode w (.cfgReq record) = .ok .readConfig

/-- The ten fields of a CFGREC (R54): in their order and without gaps at every width, and so at the listed bits at
the default widths. -/
def Obligations.RecordFieldPositions : Prop :=
  (∀ (w : Config.Widths) (c : RawConfig), c.fits w = true →
    c.pack w % 2 ^ w.dur = c.startHigh ∧
    c.pack w / 2 ^ w.dur % 2 ^ w.dur = c.startLow ∧
    c.pack w / 2 ^ (2 * w.dur) % 2 ^ w.dur = c.endHigh ∧
    c.pack w / 2 ^ (3 * w.dur) % 2 ^ w.dur = c.endLow ∧
    c.pack w / 2 ^ (4 * w.dur) % 2 ^ w.dur = c.bit0High ∧
    c.pack w / 2 ^ (5 * w.dur) % 2 ^ w.dur = c.bit0Low ∧
    c.pack w / 2 ^ (6 * w.dur) % 2 ^ w.dur = c.bit1High ∧
    c.pack w / 2 ^ (7 * w.dur) % 2 ^ w.dur = c.bit1Low ∧
    c.pack w / 2 ^ (8 * w.dur) % 2 ^ w.fmt = c.format ∧
    c.pack w / 2 ^ (8 * w.dur + w.fmt) = c.repeatCount ∧
    c.pack w < 2 ^ (8 * w.dur + w.fmt + w.rep)) ∧
  ∀ c : RawConfig, c.fits Config.defaultWidths = true →
    c.pack Config.defaultWidths % 2 ^ 32 = c.startHigh ∧
    c.pack Config.defaultWidths / 2 ^ 32 % 2 ^ 32 = c.startLow ∧
    c.pack Config.defaultWidths / 2 ^ 64 % 2 ^ 32 = c.endHigh ∧
    c.pack Config.defaultWidths / 2 ^ 96 % 2 ^ 32 = c.endLow ∧
    c.pack Config.defaultWidths / 2 ^ 128 % 2 ^ 32 = c.bit0High ∧
    c.pack Config.defaultWidths / 2 ^ 160 % 2 ^ 32 = c.bit0Low ∧
    c.pack Config.defaultWidths / 2 ^ 192 % 2 ^ 32 = c.bit1High ∧
    c.pack Config.defaultWidths / 2 ^ 224 % 2 ^ 32 = c.bit1Low ∧
    c.pack Config.defaultWidths / 2 ^ 256 % 2 ^ 8 = c.format ∧
    c.pack Config.defaultWidths / 2 ^ 264 = c.repeatCount ∧
    c.pack Config.defaultWidths < 2 ^ 296

/-- A CFGRSP holds its status in bits 2:0 and its record above; the status codes are those of R64, and 5 to 7
are never produced (R56, R59). -/
def Obligations.ResponseWords : Prop :=
  (∀ (w : Config.Widths) (t : Status) (r : Nat), r < 2 ^ w.record →
    cfgRspWord w t r % 2 ^ 3 = t.code ∧ cfgRspWord w t r / 2 ^ 3 = r) ∧
  txRspWord .ok = 0 ∧ txRspWord .invalidFormat = 1 ∧ txRspWord .invalidBitLength = 2 ∧
  txRspWord .lineUnavailable = 3 ∧ txRspWord .lineFault = 4 ∧ ∀ t : Status, t.code < 5

/-- The format codes (R55): 0 and 1 are the two variants, every other value is invalid and SET_CONFIG rejects it
without touching CFG, and a response carries the 0 or 1 of the variant in its whole format field. -/
def Obligations.FormatCodes : Prop :=
  BitFormat.ofCode 0 = some .highThenLow ∧ BitFormat.ofCode 1 = some .lowThenHigh ∧
  (∀ c : Nat, BitFormat.ofCode c = none ↔ 2 ≤ c) ∧
  (∀ (c : RawConfig) (s : State), 2 ≤ c.format →
    ∃ t, exec (.setConfig c) s = .next t ∧ t.cfg = s.cfg ∧
      ∃ r, t.responses = s.responses ++ [.cfgRsp .invalidFormat r]) ∧
  ∀ s : State, s.params.admitted = true →
    ∃ t r, exec .readConfig s = .next t ∧ t.responses = s.responses ++ [.cfgRsp .ok r] ∧
      r / 2 ^ (8 * s.params.widths.dur) % 2 ^ s.params.widths.fmt =
        (match s.cfg.format with
          | .highThenLow => 0
          | .lowThenHigh => 1)

/-! ### Configuration (spec/40_config_ops.md) -/

/-- SET_CONFIG, in every state of the sequencer (R73): format 0 or 1 replaces CFG whole and answers Ok; any other
format answers InvalidFormat and leaves CFG whole as it was. Either way nothing else is written but the response,
whose record is a free value (log 7). -/
def Obligations.SetConfigIsAtomic : Prop :=
  (∀ (c : RawConfig) (f : BitFormat) (s : State),
    (c.format = 0 ∧ f = .highThenLow ∨ c.format = 1 ∧ f = .lowThenHigh) →
    ∃ r : Nat, r < 2 ^ s.params.widths.record ∧
      exec (.setConfig c) s = .next
        { s with
          cfg := { startHigh := c.startHigh, startLow := c.startLow, endHigh := c.endHigh, endLow := c.endLow,
                   bit0High := c.bit0High, bit0Low := c.bit0Low, bit1High := c.bit1High, bit1Low := c.bit1Low,
                   format := f, repeatCount := c.repeatCount }
          draws := s.draws + 1
          responses := s.responses ++ [.cfgRsp .ok r] }) ∧
  ∀ (c : RawConfig) (s : State), c.format ≠ 0 → c.format ≠ 1 →
    ∃ r : Nat, r < 2 ^ s.params.widths.record ∧
      exec (.setConfig c) s = .next
        { s with draws := s.draws + 1, responses := s.responses ++ [.cfgRsp .invalidFormat r] }

/-- READ_CONFIG responds with CFG as it is, its format as its code, and writes nothing else (R74). -/
def Obligations.ReadConfigReturnsCfg : Prop :=
  ∀ s : State,
    exec .readConfig s = .next
      { s with
        responses := s.responses ++
          [.cfgRsp .ok (RawConfig.pack s.params.widths
            { startHigh := s.cfg.startHigh, startLow := s.cfg.startLow, endHigh := s.cfg.endHigh,
              endLow := s.cfg.endLow, bit0High := s.cfg.bit0High, bit0Low := s.cfg.bit0Low,
              bit1High := s.cfg.bit1High, bit1Low := s.cfg.bit1Low,
              format := (match s.cfg.format with
                | .highThenLow => 0
                | .lowThenHigh => 1),
              repeatCount := s.cfg.repeatCount })] }

/-- InvalidFormat is the response exactly of a SET_CONFIG whose format is neither 0 nor 1, and then CFG is not
written (R125). -/
def Obligations.InvalidFormatExactlyWhen : Prop :=
  ∀ (i : Instr) (s t : State), exec i s = .next t →
    (((∃ r, t.responses = s.responses ++ [.cfgRsp .invalidFormat r]) ∨
        ∃ q, t.responses = s.responses ++ [.txRsp q .invalidFormat]) ↔
      ∃ c, i = .setConfig c ∧ 2 ≤ c.format) ∧
    ∀ c, i = .setConfig c → 2 ≤ c.format → t.cfg = s.cfg

/-! ### SEND at the TX port (spec/42_send.md) -/

/-- The accepting step of a SEND whose length fits its buffer, in Idle (R90, R91): the frame is latched, LOCK is
set, the sequencer goes to Acquiring. -/
def Obligations.SendAccepted : Prop :=
  ∀ (len : Nat) (cnt : Nat) (bytes : List Byte) (s : State),
    s.seqState = .idle → cnt ≤ s.params.maxBytes → len ≤ 8 * cnt →
    exec (.send len cnt bytes) s = .next
      { s with
        frmLen := len, frmCnt := cnt, frmBytes := Memory.ofBytes bytes, lock := true, seqState := .acquiring }

/-- The bit-length check of the accepting step, strict and without wrap (R91): InvalidBitLength and Failed when it
fails, Acquiring when it holds; no call is made either way. -/
def Obligations.BitLengthCheck : Prop :=
  ∀ (len : Nat) (cnt : Nat) (bytes : List Byte) (s : State),
    s.seqState = .idle → cnt ≤ s.params.maxBytes →
    ∃ t, exec (.send len cnt bytes) s = .next t ∧ t.trace = s.trace ∧
      (if len > 8 * cnt then t.txStatus = .invalidBitLength ∧ t.seqState = .failed
       else t.txStatus = s.txStatus ∧ t.seqState = .acquiring)

/-- The accepting step of a SEND whose length exceeds its buffer (R90, R91, R127), with its frame. -/
def Obligations.SendTooLong : Prop :=
  ∀ (len : Nat) (cnt : Nat) (bytes : List Byte) (s : State),
    s.seqState = .idle → cnt ≤ s.params.maxBytes → 8 * cnt < len →
    exec (.send len cnt bytes) s = .next
      { s with
        frmLen := len, frmCnt := cnt, frmBytes := Memory.ofBytes bytes, lock := true, seqState := .failed,
        txStatus := .invalidBitLength }

/-- A SEND issued while another is in progress (R102): held unchanged under `Block` and accepted from there when the
port is ready; answered LineUnavailable at once under `Reject`, with no other change. -/
def Obligations.SendWhileBusy : Prop :=
  (∀ (len : Nat) (cnt : Nat) (bytes : List Byte) (s : State),
    s.seqState ≠ .idle → cnt ≤ s.params.maxBytes →
    (s.params.busyPolicy = .block →
      exec (.send len cnt bytes) s = .next
        { s with txWaiting := s.txWaiting ++ [{ bitLength := len, byteCount := cnt, bytes := bytes }] }) ∧
    (s.params.busyPolicy = .reject →
      exec (.send len cnt bytes) s = .next
        { s with responses := s.responses ++ [.txRsp .turnedAway .lineUnavailable] })) ∧
  ∀ (k : Nat) (r : SendRequest) (ts : List Turn) (s : State),
    s.turns = .waiting k :: ts → s.txWaiting[k]? = some r →
    (s.seqState = .idle →
      step s = exec (.send r.bitLength r.byteCount r.bytes)
        { s with turns := ts, txWaiting := s.txWaiting.eraseIdx k }) ∧
    (s.seqState ≠ .idle → step s = .next { s with turns := ts })

/-- A request above MAX_BYTES is outside the admitted inputs (R7): refused by name. -/
def Obligations.SendAboveMaxBytesRefused : Prop :=
  ∀ (len : Nat) (cnt : Nat) (bytes : List Byte) (s : State),
    s.params.maxBytes < cnt → exec (.send len cnt bytes) s = .refused .requestAboveMaxBytes

/-! ### The frame (spec/20_memory.md) -/

/-- `FrameBit(i)` of an accepted frame is bit `7 - (i mod 8)` of the request's byte `i / 8` (R36). -/
def Obligations.FrameBitOrder : Prop :=
  ∀ (len : Nat) (cnt : Nat) (bytes : List Byte) (s t : State) (i : Nat),
    s.seqState = .idle → (Instr.send len cnt bytes).wellFormed s.params.widths = true →
    exec (.send len cnt bytes) s = .next t → i < 8 * bytes.length →
    ∃ b, bytes[i / 8]? = some b ∧ t.memRead (i / 8) = .ok b ∧ t.frameBit i = .ok (b.getLsbD (7 - i % 8))

/-- Spare bits and surplus bytes have no effect (R39): two requests that agree on their first `bit_length` bits give
the same bits to send, whatever the rest of their bytes is. -/
def Obligations.UnusedBitsHaveNoEffect : Prop :=
  ∀ (len : Nat) (cnt cnt' : Nat) (bytes bytes' : List Byte) (s t t' : State),
    s.seqState = .idle →
    exec (.send len cnt bytes) s = .next t → exec (.send len cnt' bytes') s = .next t' →
    (∀ i, i < len →
      (bytes.getD (i / 8) 0).getLsbD (7 - i % 8) = (bytes'.getD (i / 8) 0).getLsbD (7 - i % 8)) →
    t.frameBits = t'.frameBits

/-- A read at or above FRM_CNT is not defined (R35): it faults, and no other read does. -/
def Obligations.ReadOutsideFrameFaults : Prop :=
  ∀ (s : State) (idx : Nat),
    (s.frmCnt ≤ idx → s.memRead idx = .error .frameReadPastCount) ∧
    (idx < s.frmCnt → s.memRead idx = .ok (Memory.read s.frmBytes idx))

/-! ### The Line Interface calls (spec/43_line_interface.md) -/

/-- The acquisition step (R92, R93). On `Ok(h)`: HANDLE, the whole snapshot, the position, Sending. On `Err`:
LineUnavailable and Failed, no snapshot. -/
def Obligations.AcquisitionStep : Prop :=
  ∀ s : State, s.seqState = .acquiring →
    (∀ h, s.acquireAnswer = .ok h →
      exec .liAcquire s = .next
        { s with
          acquireAnswers := s.acquireAnswers.tail, draws := s.draws + 1, trace := s.trace ++ [.acquireOk],
          handle := some h, act := s.cfg, rep := 0, slot := 0, phase := .setFirst, seqState := .sending }) ∧
    (s.acquireAnswer = .err →
      exec .liAcquire s = .next
        { s with
          acquireAnswers := s.acquireAnswers.tail, draws := s.draws + 1, trace := s.trace ++ [.acquireErr],
          txStatus := .lineUnavailable, seqState := .failed })

/-- LI_SET_LEVEL answered `Ok`: LINE_CMD is the level commanded, also where it was already (R114). -/
def Obligations.SetLevelOk : Prop :=
  ∀ (l : Level) (h : LineHandle) (s : State), s.handle = some h → s.callAnswer = .ok →
    exec (.liSetLevel l) s = .next
      { s with
        callAnswers := s.callAnswers.tail, draws := s.draws + 1, trace := s.trace ++ [.setLevel l .ok],
        lineCmd := l }

/-- LI_DELAY answered `Ok`: the call is in the trace with its exact duration, zero included, and nothing else
changes (R115). -/
def Obligations.DelayOk : Prop :=
  ∀ (n : Nat) (h : LineHandle) (s : State), s.handle = some h → s.callAnswer = .ok →
    exec (.liDelay n) s = .next
      { s with callAnswers := s.callAnswers.tail, draws := s.draws + 1, trace := s.trace ++ [.delay n .ok] }

/-- The release step (R98): one LI_RELEASE, HANDLE none, TX_STATUS Ok, LOCK freed, Idle, TXRSP(Ok). What the
registers hold whose live range ends here is free, within their widths (log 5). -/
def Obligations.ReleaseStep : Prop :=
  ∀ (h : LineHandle) (s : State), s.handle = some h →
    ∃ d : Config.DeadRegs, d.fits s.params.widths = true ∧
      exec .liRelease s = .next
        { s with
          trace := s.trace ++ [.release], responses := s.responses ++ [.txRsp .lockHolder .ok],
          handle := none, txStatus := .ok, lock := false, seqState := .idle, draws := s.draws + 1,
          act := d.act, frmLen := d.frmLen, frmCnt := d.frmCnt, frmBytes := Memory.ofBytes d.frmBytes,
          rep := d.rep, slot := d.slot, phase := d.phase }

/-- The abort sequence (R130), in the step in which a call answers `Fault`: after the faulted call come one
SetLevel(Low), whatever its answer, and Release; HANDLE none, LINE_CMD Low, TX_STATUS LineFault, Failed. It is the
same for LI_SET_LEVEL, LI_DELAY, the phases of every symbol and FORCE_LOW. -/
def Obligations.AbortOnFault : Prop :=
  ∀ (i : Instr) (e : Event) (h : LineHandle) (s : State), s.handle = some h → s.callAnswer = .fault →
    ((∃ l, i = .liSetLevel l ∧ e = .setLevel l .fault) ∨
     (∃ n, i = .liDelay n ∧ e = .delay n .fault) ∨
     (i = .forceLow ∧ e = .setLevel .low .fault) ∨
     (∃ hi lo, symbolDurations s.act i = some (hi, lo) ∧
       e = (emitCall hi lo s.act.format s.phase).event .fault)) →
    ∃ (d : Config.DeadRegs) (b : CallAnswer), d.fits s.params.widths = true ∧
      exec i s = .next
        { s with
          callAnswers := s.callAnswers.tail.tail, draws := s.draws + 3,
          trace := s.trace ++ [e, .setLevel .low b, .release],
          handle := none, lineCmd := .low, txStatus := .lineFault, seqState := .failed,
          act := d.act, frmLen := d.frmLen, frmCnt := d.frmCnt, frmBytes := Memory.ofBytes d.frmBytes,
          rep := d.rep, slot := d.slot, phase := d.phase }

/-- Outside the call discipline nothing is issued (R117; log 10): without a handle the operations that need one
are refused, and LI_ACQUIRE is refused outside Acquiring. -/
def Obligations.NoCallOutsideTheDiscipline : Prop :=
  (∀ (i : Instr) (s : State), s.handle = none →
    (∃ l, i = .liSetLevel l) ∨ (∃ n, i = .liDelay n) ∨ i = .liRelease ∨ i = .forceLow ∨
      (symbolDurations s.act i).isSome = true →
    exec i s = .refused .lineNotHeld) ∧
  ∀ s : State, s.seqState ≠ .acquiring → exec .liAcquire s = .refused .notAcquiring

/-! ### The symbol operations (spec/41_symbol_ops.md)

`symbolDurations s.act i = some (h, l)` names SYM_START, SYM_BIT0, SYM_BIT1 and SYM_END with the pair R62 gives
each from ACT. -/

/-- Phase 0 of a symbol (R79, R80): the first level is set, High under HighThenLow and Low under LowThenHigh. -/
def Obligations.SymbolSetsFirstLevel : Prop :=
  ∀ (i : Instr) (h l : Nat) (hd : LineHandle) (s : State),
    symbolDurations s.act i = some (h, l) → s.handle = some hd → s.callAnswer = .ok → s.phase = .setFirst →
    exec i s = .next
      { s with
        callAnswers := s.callAnswers.tail, draws := s.draws + 1, phase := .holdFirst,
        lineCmd := (match s.act.format with
          | .highThenLow => .high
          | .lowThenHigh => .low),
        trace := s.trace ++ [match s.act.format with
          | .highThenLow => .setLevel .high .ok
          | .lowThenHigh => .setLevel .low .ok] }

/-- Phase 1 of a symbol (R79, R80, R86): the first half is held, for the high duration under HighThenLow and the low
duration under LowThenHigh, zero or not. -/
def Obligations.SymbolHoldsFirstHalf : Prop :=
  ∀ (i : Instr) (h l : Nat) (hd : LineHandle) (s : State),
    symbolDurations s.act i = some (h, l) → s.handle = some hd → s.callAnswer = .ok → s.phase = .holdFirst →
    exec i s = .next
      { s with
        callAnswers := s.callAnswers.tail, draws := s.draws + 1, phase := .setSecond,
        trace := s.trace ++ [match s.act.format with
          | .highThenLow => .delay h .ok
          | .lowThenHigh => .delay l .ok] }

/-- Phase 2 of a symbol (R79, R80): the second level is set. -/
def Obligations.SymbolSetsSecondLevel : Prop :=
  ∀ (i : Instr) (h l : Nat) (hd : LineHandle) (s : State),
    symbolDurations s.act i = some (h, l) → s.handle = some hd → s.callAnswer = .ok → s.phase = .setSecond →
    exec i s = .next
      { s with
        callAnswers := s.callAnswers.tail, draws := s.draws + 1, phase := .holdSecond,
        lineCmd := (match s.act.format with
          | .highThenLow => .low
          | .lowThenHigh => .high),
        trace := s.trace ++ [match s.act.format with
          | .highThenLow => .setLevel .low .ok
          | .lowThenHigh => .setLevel .high .ok] }

/-- Phase 3 of a symbol (R79, R80): the second half is held, and the position goes to the next slot. -/
def Obligations.SymbolHoldsSecondHalf : Prop :=
  ∀ (i : Instr) (h l : Nat) (hd : LineHandle) (s : State),
    symbolDurations s.act i = some (h, l) → s.handle = some hd → s.callAnswer = .ok → s.phase = .holdSecond →
    exec i s = .next
      { s with
        callAnswers := s.callAnswers.tail, draws := s.draws + 1, phase := .setFirst, slot := s.slot + 1,
        trace := s.trace ++ [match s.act.format with
          | .highThenLow => .delay l .ok
          | .lowThenHigh => .delay h .ok] }

/-- FORCE_LOW answered `Ok` (R85): one SetLevel(Low) whatever the format and the level, no delay, and the next
repetition begins. -/
def Obligations.ForceLowStep : Prop :=
  ∀ (hd : LineHandle) (s : State), s.handle = some hd → s.callAnswer = .ok →
    exec .forceLow s = .next
      { s with
        callAnswers := s.callAnswers.tail, draws := s.draws + 1, lineCmd := .low,
        trace := s.trace ++ [.setLevel .low .ok], rep := s.rep + 1, slot := 0, phase := .setFirst }

/-- A symbol operation is the Line Interface call of its phase, run as LI_SET_LEVEL or LI_DELAY, and then, when the
call answered `Ok`, the advance of the position (R80; log 9). -/
def Obligations.SymbolIsItsCallThenAdvance : Prop :=
  ∀ (i : Instr) (h l : Nat) (s : State), symbolDurations s.act i = some (h, l) →
    ∃ j : Instr,
      (j = match s.act.format, s.phase with
        | .highThenLow, .setFirst => .liSetLevel .high
        | .highThenLow, .holdFirst => .liDelay h
        | .highThenLow, .setSecond => .liSetLevel .low
        | .highThenLow, .holdSecond => .liDelay l
        | .lowThenHigh, .setFirst => .liSetLevel .low
        | .lowThenHigh, .holdFirst => .liDelay l
        | .lowThenHigh, .setSecond => .liSetLevel .high
        | .lowThenHigh, .holdSecond => .liDelay h) ∧
      exec i s = (if s.callAnswer = .ok then mapNext State.advance (exec j s) else exec j s)

/-! ### The step -/

/-- A step runs the operation it decodes: the request on the CFG or TX port; LI_ACQUIRE in Acquiring; LI_RELEASE at
the release point; else the symbol operation the slot selects. The turn is used up first (log 3). -/
def Obligations.StepRunsTheDecodedOperation : Prop :=
  ∀ (s : State) (i : Instr),
    (∀ word ts, s.turns = .cfg word :: ts → decode s.params.widths (.cfgReq word) = .ok i →
      step s = exec i { s with turns := ts }) ∧
    (∀ len val ts, s.turns = .tx len val :: ts → decode s.params.widths (.txReq len val) = .ok i →
      step s = exec i { s with turns := ts }) ∧
    (s.turn = .sequencer → s.seqState = .acquiring →
      step s = exec .liAcquire { s with turns := s.turns.tail }) ∧
    (s.turn = .sequencer → s.seqState = .sending → s.rep = s.act.repeatCount →
      step s = exec .liRelease { s with turns := s.turns.tail }) ∧
    ∀ c, s.turn = .sequencer → s.seqState = .sending → s.rep ≠ s.act.repeatCount →
      s.symbolCode = .ok c → decode s.params.widths c = .ok i → step s = exec i { s with turns := s.turns.tail }

/-- The symbol the slot selects (R60, R61, R97). -/
def Obligations.SlotSelectsTheSymbol : Prop :=
  ∀ s : State, s.turn = .sequencer → s.seqState = .sending → s.rep < s.act.repeatCount →
    s.frmLen ≤ 8 * s.frmCnt →
    (s.slot = 0 → step s = exec .symStart { s with turns := s.turns.tail }) ∧
    (∀ i, s.slot = i + 1 → i < s.frmLen →
      step s = exec (if (Memory.read s.frmBytes (i / 8)).getLsbD (7 - i % 8) then .symBit1 else .symBit0)
        { s with turns := s.turns.tail }) ∧
    (s.slot = s.frmLen + 1 → step s = exec .symEnd { s with turns := s.turns.tail }) ∧
    (s.slot = s.frmLen + 2 → step s = exec .forceLow { s with turns := s.turns.tail })

/-- The step of state Failed (R103): TX_STATUS is delivered, LOCK freed, Idle, and no call is made. -/
def Obligations.FailedDeliversItsStatus : Prop :=
  ∀ s : State, s.turn = .sequencer → s.seqState = .failed →
    ∃ d : Config.DeadRegs, d.fits s.params.widths = true ∧
      step s = .next
        { s with
          turns := s.turns.tail, responses := s.responses ++ [.txRsp .lockHolder s.txStatus], lock := false,
          seqState := .idle, txStatus := d.txStatus, draws := s.draws + 1,
          act := d.act, frmLen := d.frmLen, frmCnt := d.frmCnt, frmBytes := Memory.ofBytes d.frmBytes,
          rep := d.rep, slot := d.slot, phase := d.phase }

/-- A waiting requester may withdraw; its request leaves no trace (R104). -/
def Obligations.WithdrawalLeavesNoTrace : Prop :=
  ∀ (s : State) (k : Nat) (ts : List Turn), s.turns = .withdraw k :: ts →
    step s = .next { s with turns := ts, txWaiting := s.txWaiting.eraseIdx k }

/-! ### Reset (spec/70_reset_and_hazards.md) -/

/-- The values R30 gives for reset, and that the block then waits in Idle: with no host move listed a step changes
nothing. -/
def Obligations.ResetValues : Prop :=
  (∀ p : Config.Params, step (State.resetWith p) = .next (State.resetWith p)) ∧
  (∀ p : Config.Params, (State.resetWith p).cfg = p.cfgReset ∧ (State.resetWith p).seqState = .idle ∧
    (State.resetWith p).lock = false ∧ (State.resetWith p).handle = none ∧
    (State.resetWith p).lineCmd = .low) ∧
  State.reset.cfg = { startHigh := 0, startLow := 0, endHigh := 0, endLow := 0, bit0High := 0, bit0Low := 0,
                      bit1High := 0, bit1Low := 0, format := .highThenLow, repeatCount := 0 }

/-- The reset event (R143, R144): in Idle it gives the block its reset values and makes no call; while a SEND is in
progress it is refused. What requesters hold and the inputs to come are untouched: the model's choice (log 17). -/
def Obligations.ResetEvent : Prop :=
  ∀ (s : State) (ts : List Turn), s.turns = .reset :: ts →
    (s.seqState = .idle → ∃ t, step s = .next t ∧ t.cfg = s.params.cfgReset ∧ t.seqState = .idle ∧
      t.lock = false ∧ t.handle = none ∧ t.lineCmd = .low ∧ t.trace = s.trace ∧ t.responses = s.responses ∧
      t.txWaiting = s.txWaiting ∧ t.turns = ts ∧ t.acquireAnswers = s.acquireAnswers ∧
      t.callAnswers = s.callAnswers ∧ t.params = s.params) ∧
    (s.seqState ≠ .idle → step s = .refused .resetDuringSend)

/-- The invariant holds at reset, whatever the parameters, where R7 admits them. -/
def Obligations.ResetHasTheInvariant : Prop :=
  State.reset.Inv ∧ ∀ p : Config.Params, p.admitted = true → (State.resetWith p).Inv

/-! ### Whole-machine statements -/

/-- Every step of every agent keeps the invariant, from every state that has it. -/
def Obligations.StepKeepsTheInvariant : Prop :=
  ∀ s t : State, s.Inv → step s = .next t → t.Inv

/-- The bit fetch of an accepted SEND is always defined (R40): no step from a state with the invariant faults. -/
def Obligations.NoStepFaults : Prop :=
  ∀ (s : State) (f : Fault), s.Inv → step s ≠ .fault f

/-- The sequencer always has a step: from a state with the invariant its turn answers a next state. -/
def Obligations.SequencerNeverStops : Prop :=
  ∀ s : State, s.Inv → s.turn = .sequencer → ∃ t, step s = .next t

/-- The state machine (R99): every edge, when it is taken, and the calls made in the step; every other step leaves
SEQ.state and the trace alone. -/
def Obligations.StateMachineEdges : Prop :=
  ∀ s t : State, s.Inv → step s = .next t →
    (t.seqState = s.seqState ∧ t.trace = s.trace) ∨
    (s.seqState = .idle ∧ t.seqState = .acquiring ∧ t.trace = s.trace ∧
      t.frmLen ≤ 8 * t.frmCnt) ∨
    (s.seqState = .idle ∧ t.seqState = .failed ∧ t.trace = s.trace ∧ t.txStatus = .invalidBitLength ∧
      t.frmLen > 8 * t.frmCnt) ∨
    (s.seqState = .acquiring ∧ t.seqState = .sending ∧ t.trace = s.trace ++ [.acquireOk]) ∨
    (s.seqState = .acquiring ∧ t.seqState = .failed ∧ t.trace = s.trace ++ [.acquireErr]) ∨
    (s.seqState = .sending ∧ t.seqState = .sending ∧ s.rep < s.act.repeatCount ∧
      ∃ c : LineCall, t.trace = s.trace ++ [c.event .ok]) ∨
    (s.seqState = .sending ∧ t.seqState = .failed ∧ s.rep < s.act.repeatCount ∧
      ∃ (c : LineCall) (b : CallAnswer), t.trace = s.trace ++ [c.event .fault, .setLevel .low b, .release]) ∨
    (s.seqState = .sending ∧ t.seqState = .idle ∧ s.rep = s.act.repeatCount ∧
      t.trace = s.trace ++ [.release]) ∨
    (s.seqState = .failed ∧ t.seqState = .idle ∧ t.trace = s.trace)

/-- CFG is written by a valid SET_CONFIG and by reset, and by nothing else (R13). -/
def Obligations.OnlySetConfigWritesCfg : Prop :=
  ∀ s t : State, step s = .next t →
    t.cfg = s.cfg ∨
    (∃ w c v, s.turn = .cfg w ∧ decode s.params.widths (.cfgReq w) = .ok (.setConfig c) ∧ c.validate = some v ∧ t.cfg = v) ∨
    (s.turn = .reset ∧ t.cfg = s.params.cfgReset)

/-- Snapshot isolation (R43): while a SEND stays in Sending, no step of any agent changes ACT or its frame. -/
def Obligations.SnapshotIsolation : Prop :=
  ∀ s t : State, step s = .next t → s.seqState = .sending → t.seqState = .sending →
    t.act = s.act ∧ t.frmLen = s.frmLen ∧ t.frmCnt = s.frmCnt ∧ t.frmBytes = s.frmBytes

/-- No host operation stops, pauses, shortens or restarts an accepted SEND, nor drives the line (R104, R111). -/
def Obligations.HostsLeaveTheSendAlone : Prop :=
  ∀ s t : State, s.seqState ≠ .idle → s.turn ≠ .sequencer → step s = .next t →
    t.act = s.act ∧ t.frmLen = s.frmLen ∧ t.frmCnt = s.frmCnt ∧ t.frmBytes = s.frmBytes ∧
    t.seqState = s.seqState ∧ t.lock = s.lock ∧ t.rep = s.rep ∧ t.slot = s.slot ∧ t.phase = s.phase ∧
    t.handle = s.handle ∧ t.lineCmd = s.lineCmd ∧ t.txStatus = s.txStatus ∧ t.trace = s.trace

/-- A SEND gets exactly one TXRSP, in the step in which it leaves the sequencer Idle (R110). -/
def Obligations.OneResponsePerSend : Prop :=
  ∀ s t : State, step s = .next t →
    if s.seqState ≠ .idle ∧ t.seqState = .idle then
      ∃ st, t.responses = s.responses ++ [.txRsp .lockHolder st]
    else t.responses = s.responses ∨ (∃ st r, t.responses = s.responses ++ [.cfgRsp st r]) ∨
      t.responses = s.responses ++ [.txRsp .turnedAway .lineUnavailable]

/-- The parameters are fixed for the machine, and the call trace only grows, by steps of the sequencer only (R7,
R67). -/
def Obligations.TraceGrowsBySequencerOnly : Prop :=
  ∀ s t : State, step s = .next t →
    t.params = s.params ∧ (∃ es, t.trace = s.trace ++ es) ∧ (s.turn ≠ .sequencer → t.trace = s.trace)

/-- The observation is not state the block can read (R29): whatever was observed before, a step does the same. -/
def Obligations.ObservationIsNotRead : Prop :=
  ∀ (s : State) (es : List Event) (rs : List Response),
    step (s.precededBy es rs) = mapNext (fun t => t.precededBy es rs) (step s)

/-! ### A whole SEND (R49, R68, R100, R106) -/

/-- The call trace of a SEND whose acquisition succeeds and whose calls all answer `Ok` (R106): from Acquiring, with no
host move to come, the sequencer issues exactly `Acquire`, the calls of `repeat_count` repetitions of the snapshot and
the frame, and `Release`, delivers Ok and is Idle again with LINE_CMD Low. -/
def Obligations.WholeSendTrace : Prop :=
  ∀ (s : State) (h : LineHandle) (as : List AcquireAnswer) (rest : List CallAnswer),
    s.turns = [] → s.seqState = .acquiring → s.lineCmd = .low → s.frmLen ≤ 8 * s.frmCnt →
    s.acquireAnswers = .ok h :: as →
    s.callAnswers = List.replicate (s.cfg.repeatCount * (4 * s.frmLen + 9)) .ok ++ rest →
    ∃ t : State,
      Host.Core.run Sys2Proof.core (s.cfg.repeatCount * (4 * s.frmLen + 9) + 2) s = .next t ∧
      t.trace = s.trace ++ (.acquireOk :: sendEvents s.cfg s.frameBits ++ [.release]) ∧
      t.responses = s.responses ++ [.txRsp .lockHolder .ok] ∧
      t.seqState = .idle ∧ t.lock = false ∧ t.handle = none ∧ t.lineCmd = .low ∧
      t.cfg = s.cfg ∧ t.callAnswers = rest ∧ t.acquireAnswers = as

/-- A SEND with `repeat_count` 0 acquires and releases and transmits nothing (R100). -/
def Obligations.RepeatCountZeroTransmitsNothing : Prop :=
  ∀ (s : State) (h : LineHandle), s.turns = [] → s.seqState = .acquiring → s.cfg.repeatCount = 0 →
    s.acquireAnswer = .ok h →
    ∃ t : State, Host.Core.run Sys2Proof.core 2 s = .next t ∧ t.trace = s.trace ++ [.acquireOk, .release] ∧
      t.responses = s.responses ++ [.txRsp .lockHolder .ok] ∧ t.seqState = .idle ∧ t.lineCmd = s.lineCmd

/-- The pulse list read from the trace of such a SEND is the big-step form (R68, R87, R106). -/
def Obligations.PulsesOfTheTrace : Prop :=
  ∀ (c : TimingConfig) (bits : List Bool),
    pulses (.acquireOk :: sendEvents c bits ++ [.release]) = sendPulses c bits

/-- The lengths R106 gives: `repeat_count * (2 L + 5)` pulse entries and `repeat_count * (4 L + 9) + 2` events. -/
def Obligations.LengthsOfASend : Prop :=
  ∀ (c : TimingConfig) (bits : List Bool),
    (sendPulses c bits).length = c.repeatCount * (2 * bits.length + 5) ∧
    (.acquireOk :: sendEvents c bits ++ [.release] : List Event).length =
      c.repeatCount * (4 * bits.length + 9) + 2

/-- Forward progress (R49): whatever the Line Interface answers, a SEND in Sending is over within the calls that
remain, one release and one delivery. -/
def Obligations.SendReachesItsResult : Prop :=
  ∀ s : State, s.Inv → s.turns = [] → s.seqState = .sending →
    ∃ (k : Nat) (t : State),
      k ≤ (s.act.repeatCount - s.rep) * (4 * s.frmLen + 9) + 1 ∧
      Host.Core.run Sys2Proof.core k s = .next t ∧ t.seqState = .idle ∧
      ∃ st, t.responses = s.responses ++ [.txRsp .lockHolder st]
end

