-- ==== Sys2Proof/Laws/Widths.lean ====
section
/-! SUPPORT. Fitting the widths: what it says field by field, and that cutting to the widths makes it hold. -/

namespace Sys2Proof

theorem TimingConfig.fits_iff {w : Config.Widths} {c : TimingConfig} :
    c.fits w = true ↔
      (c.startHigh < 2 ^ w.dur ∧ c.startLow < 2 ^ w.dur ∧ c.endHigh < 2 ^ w.dur ∧ c.endLow < 2 ^ w.dur ∧
        c.bit0High < 2 ^ w.dur ∧ c.bit0Low < 2 ^ w.dur ∧ c.bit1High < 2 ^ w.dur ∧ c.bit1Low < 2 ^ w.dur) ∧
      c.repeatCount < 2 ^ w.rep := by
  simp [TimingConfig.fits]

theorem RawConfig.fits_iff {w : Config.Widths} {c : RawConfig} :
    c.fits w = true ↔
      ((c.startHigh < 2 ^ w.dur ∧ c.startLow < 2 ^ w.dur ∧ c.endHigh < 2 ^ w.dur ∧ c.endLow < 2 ^ w.dur ∧
        c.bit0High < 2 ^ w.dur ∧ c.bit0Low < 2 ^ w.dur ∧ c.bit1High < 2 ^ w.dur ∧ c.bit1Low < 2 ^ w.dur) ∧
      c.format < 2 ^ w.fmt) ∧ c.repeatCount < 2 ^ w.rep := by
  simp [RawConfig.fits]

theorem sendFits_iff {w : Config.Widths} {len : Nat} {cnt : Nat} {bytes : List Byte} :
    sendFits w len cnt bytes = true ↔ (len < 2 ^ w.len ∧ cnt < 2 ^ w.cnt) ∧ bytes.length = cnt := by
  simp [sendFits, bytesMatchCount]

theorem cut_lt (n k : Nat) : n % 2 ^ k < 2 ^ k := Nat.mod_lt _ (Nat.two_pow_pos k)

/-- A record cut to its widths fits them. -/
@[simp] theorem TimingConfig.clip_fits (w : Config.Widths) (c : TimingConfig) : (c.clip w).fits w = true := by
  simp only [TimingConfig.fits_iff, TimingConfig.clip, cut_lt, and_self]

/-- The zero record fits every width. -/
@[simp] theorem Config.cfgResetDefault_fits (w : Config.Widths) : Config.cfgResetDefault.fits w = true := by
  simp only [TimingConfig.fits_iff, Config.cfgResetDefault, Nat.two_pow_pos, and_self]

theorem Config.DeadRegs.fits_iff {w : Config.Widths} {d : Config.DeadRegs} :
    d.fits w = true ↔
      (((d.act.fits w = true ∧ d.frmLen < 2 ^ w.len) ∧ d.frmCnt < 2 ^ w.cnt) ∧ d.rep < 2 ^ (w.rep + 1)) ∧
        d.slot < 2 ^ (w.len + 2) := by
  simp only [Config.DeadRegs.fits, Bool.and_eq_true, decide_eq_true_eq]

/-- Contents cut to their widths fit them. -/
@[simp] theorem Config.DeadRegs.clip_fits (w : Config.Widths) (d : Config.DeadRegs) :
    (d.clip w).fits w = true := by
  simp only [Config.DeadRegs.fits_iff, Config.DeadRegs.clip, TimingConfig.clip_fits, cut_lt, and_self]

end Sys2Proof
end

