-- ==== Sys2Proof/Laws/Encoding.lean ====
section
/-! SUPPORT. Where each field of a packed word comes from, and the unpacking that undoes each packing, at every
width. -/

namespace Sys2Proof

/-! ### Packed fields (R54) -/

/-- Each field is below its width's power of two, and there are as many fields as widths. -/
inductive Fit : List Nat → List Nat → Prop where
  | nil : Fit [] []
  | cons {w v : Nat} {ws vs : List Nat} : v < 2 ^ w → Fit ws vs → Fit (w :: ws) (v :: vs)

/-- A packed word has the width of all its fields together. -/
theorem packFields_lt (ws vs : List Nat) : packFields ws vs < 2 ^ ws.sum := by
  induction ws generalizing vs with
  | nil => simp [packFields]
  | cons w ws ih =>
    cases vs with
    | nil => simp [packFields]
    | cons v vs =>
      simp only [packFields, List.sum_cons, Nat.pow_add]
      have hv := cut_lt v w
      have := Nat.mul_le_mul_left (2 ^ w) (Nat.succ_le_of_lt (ih vs))
      rw [Nat.mul_succ] at this
      omega

/-- The first field is the low end of the word. -/
theorem fieldAt_zero (w : Nat) (ws : List Nat) (x : Nat) : fieldAt (w :: ws) 0 x = x % 2 ^ w := by
  simp [fieldAt]

/-- The fields after the first are those of the word shifted down by the first field's width. -/
theorem fieldAt_succ (w : Nat) (ws : List Nat) (k x : Nat) :
    fieldAt (w :: ws) (k + 1) x = fieldAt ws k (x / 2 ^ w) := by
  simp [fieldAt, Nat.div_div_eq_div_mul, Nat.pow_add]

/-- A packed word, with anything above its fields, holds each field at its place. -/
theorem fieldAt_packFields {ws vs : List Nat} (h : Fit ws vs) (hi k : Nat) (hk : k < ws.length) :
    fieldAt ws k (packFields ws vs + 2 ^ ws.sum * hi) = vs.getD k 0 := by
  induction h generalizing k with
  | nil => simp at hk
  | @cons w v ws vs hv _ ih =>
    have hx : packFields (w :: ws) (v :: vs) + 2 ^ (w :: ws).sum * hi
        = v + 2 ^ w * (packFields ws vs + 2 ^ ws.sum * hi) := by
      simp only [packFields, List.sum_cons, Nat.pow_add, Nat.mod_eq_of_lt hv]
      ring
    rw [hx]
    cases k with
    | zero => rw [fieldAt_zero, Nat.add_mul_mod_self_left, Nat.mod_eq_of_lt hv]; rfl
    | succ k =>
      rw [fieldAt_succ, Nat.add_mul_div_left _ _ (Nat.two_pow_pos w), Nat.div_eq_of_lt hv, Nat.zero_add,
        ih k (by simpa using hk)]
      rfl

/-- The fields of a word, packed again, are the word below the fields' width. -/
theorem packFields_fieldAt (ws : List Nat) (x : Nat) :
    packFields ws ((List.range ws.length).map (fun k => fieldAt ws k x)) = x % 2 ^ ws.sum := by
  induction ws generalizing x with
  | nil => simp [packFields, Nat.mod_one]
  | cons w ws ih =>
    rw [List.length_cons, List.range_succ_eq_map, List.map_cons, List.map_map]
    simp only [packFields, fieldAt_zero, Nat.mod_mod, Function.comp_def, fieldAt_succ, ih, List.sum_cons,
      Nat.pow_add]
    exact (Nat.mod_mul).symm

/-! ### The record (R54) -/

theorem Config.Widths.fields_sum (w : Config.Widths) : w.fields.sum = w.record := by
  simp only [Config.Widths.fields, Config.Widths.record, List.sum_cons, List.sum_nil]
  omega

theorem RawConfig.pack_lt (w : Config.Widths) (c : RawConfig) : c.pack w < 2 ^ w.record := by
  rw [← w.fields_sum]
  exact packFields_lt _ _

theorem RawConfig.fit {w : Config.Widths} {c : RawConfig} (h : c.fits w = true) : Fit w.fields c.fields := by
  obtain ⟨⟨⟨h0, h1, h2, h3, h4, h5, h6, h7⟩, h8⟩, h9⟩ := RawConfig.fits_iff.mp h
  exact .cons h0 (.cons h1 (.cons h2 (.cons h3 (.cons h4 (.cons h5 (.cons h6 (.cons h7 (.cons h8
    (.cons h9 .nil)))))))))

/-- Field `k` of a record with anything above it. -/
theorem RawConfig.fieldAt_pack {w : Config.Widths} {c : RawConfig} (h : c.fits w = true) (hi k : Nat)
    (hk : k < 10) : fieldAt w.fields k (c.pack w + 2 ^ w.record * hi) = c.fields.getD k 0 := by
  rw [← w.fields_sum]
  exact fieldAt_packFields (RawConfig.fit h) hi k hk

/-- Unpacking undoes packing, whatever stands above the record. -/
theorem RawConfig.unpack_pack {w : Config.Widths} {c : RawConfig} (h : c.fits w = true) (hi : Nat) :
    RawConfig.unpack w (c.pack w + 2 ^ w.record * hi) = c := by
  simp only [RawConfig.unpack, RawConfig.fieldAt_pack h hi, Nat.reduceLT]
  rfl

/-- Packing undoes unpacking, below the record's width. -/
theorem RawConfig.pack_unpack (w : Config.Widths) (x : Nat) :
    (RawConfig.unpack w x).pack w = x % 2 ^ w.record := by
  rw [← w.fields_sum]
  exact packFields_fieldAt w.fields x

/-- An unpacked candidate fits. -/
theorem RawConfig.unpack_fits (w : Config.Widths) (x : Nat) : (RawConfig.unpack w x).fits w = true := by
  simp only [RawConfig.fits_iff]
  exact ⟨⟨⟨cut_lt _ _, cut_lt _ _, cut_lt _ _, cut_lt _ _, cut_lt _ _, cut_lt _ _, cut_lt _ _, cut_lt _ _⟩,
    cut_lt _ _⟩, cut_lt _ _⟩

/-- What a fitting candidate is stored as fits. -/
theorem RawConfig.validate_fits {w : Config.Widths} {c : RawConfig} {v : TimingConfig} (h : c.fits w = true)
    (hv : c.validate = some v) : v.fits w = true := by
  unfold RawConfig.validate at hv
  split at hv
  · cases hv
  · cases hv
    obtain ⟨⟨hd, _⟩, hr⟩ := RawConfig.fits_iff.mp h
    exact TimingConfig.fits_iff.mpr ⟨hd, hr⟩

/-! ### Requests and responses (R56, R57) -/

/-- Two fields, the lower one first. -/
theorem packFields_two {a b x y : Nat} (hx : x < 2 ^ a) (hy : y < 2 ^ b) :
    packFields [a, b] [x, y] = x + 2 ^ a * y := by
  simp [packFields, Nat.mod_eq_of_lt hx, Nat.mod_eq_of_lt hy]

/-- A CFGREQ is its record and its operation bit above it. -/
theorem cfgReqWord_eq {w : Config.Widths} {op : Nat} {r : Nat} (ho : op < 2) (hr : r < 2 ^ w.record) :
    cfgReqWord w op r = r + 2 ^ w.record * op :=
  packFields_two hr (by omega)

/-- What a CFGREQ decodes to: SET_CONFIG where the operation bit is 1. -/
theorem decodeCfgReq_ok {w : Config.Widths} {word : Nat} {i : Instr} (h : decodeCfgReq w word = .ok i) :
    word < 2 ^ (w.record + 1) ∧
      (word / 2 ^ w.record = 1 ∧ i = .setConfig (RawConfig.unpack w word) ∨
        word / 2 ^ w.record = 0 ∧ i = .readConfig) := by
  unfold decodeCfgReq at h
  split_ifs at h with h1 h2
  · cases h; exact ⟨by omega, .inl ⟨h2, rfl⟩⟩
  · cases h
    have hlt : word < 2 ^ w.record * 2 := by rw [← Nat.pow_succ]; omega
    have hdiv : word / 2 ^ w.record < 2 := Nat.div_lt_of_lt_mul hlt
    generalize word / 2 ^ w.record = q at h2 hdiv ⊢
    exact ⟨by omega, .inr ⟨by omega, rfl⟩⟩

theorem natBytes_length (k n : Nat) : (natBytes k n).length = k := by
  induction k generalizing n with
  | zero => rfl
  | succ k ih => simp [natBytes, ih]

/-- Bytes and back. -/
theorem natBytes_bytesNat (bytes : List Byte) : natBytes bytes.length (bytesNat bytes) = bytes := by
  induction bytes with
  | nil => rfl
  | cons b bs ih =>
    have hb := b.isLt
    have hdiv : (b.toNat + 256 * bytesNat bs) / 256 = bytesNat bs := by omega
    simp only [List.length_cons, natBytes, bytesNat, hdiv, ih, List.cons.injEq, and_true]
    apply BitVec.eq_of_toNat_eq
    simp only [BitVec.toNat_ofNat]
    omega

/-- A number and back, below the width of its bytes. -/
theorem bytesNat_natBytes (k n : Nat) : bytesNat (natBytes k n) = n % 2 ^ (8 * k) := by
  induction k generalizing n with
  | zero => simp [natBytes, bytesNat, Nat.mod_one]
  | succ k ih =>
    have : 2 ^ (8 * (k + 1)) = 256 * 2 ^ (8 * k) := by rw [Nat.mul_succ, Nat.pow_add, Nat.mul_comm]
    simp only [natBytes, bytesNat, ih, BitVec.toNat_ofNat, this]
    exact (Nat.mod_mul).symm

/-- A TXREQ decodes to a SEND whose operands fit. -/
theorem decodeTxReq_ok {w : Config.Widths} {len val : Nat} {i : Instr} (h : decodeTxReq w len val = .ok i) :
    ∃ (n : Nat) (cnt : Nat) (bytes : List Byte), i = .send n cnt bytes ∧
      sendFits w n cnt bytes = true := by
  unfold decodeTxReq at h
  simp only at h
  split_ifs at h
  cases h
  exact ⟨_, _, _, rfl, sendFits_iff.mpr ⟨⟨cut_lt _ _, cut_lt _ _⟩, natBytes_length _ _⟩⟩

end Sys2Proof
end

