-- ==== Sys2Proof/Laws/Memory.lean ====
section
/-! SUPPORT. The laws of the frame buffer: latching gives the canonical form, holds each byte at its index and
lists nothing outside the frame. -/

namespace Sys2Proof.Machine

theorem Memory.ofBytesFrom_mem {c : Host.Cell} {base : Nat} {bytes : List Byte}
    (h : c ∈ Memory.ofBytesFrom base bytes) : base ≤ c.1 ∧ c.1 < base + bytes.length := by
  induction bytes generalizing base with
  | nil => simp [Memory.ofBytesFrom] at h
  | cons b bs ih =>
    unfold Memory.ofBytesFrom at h
    split at h
    · have := ih h
      simp only [List.length_cons]
      omega
    · rcases List.mem_cons.mp h with rfl | h
      · simp
      · have := ih h
        simp only [List.length_cons]
        omega

/-- A latched frame lists no index at or above its length. -/
theorem Memory.ofBytes_mem_lt {c : Host.Cell} {bytes : List Byte} (h : c ∈ Memory.ofBytes bytes) :
    c.1 < bytes.length := by
  have := Memory.ofBytesFrom_mem h
  omega

theorem Memory.ofBytesFrom_wf (base : Nat) (bytes : List Byte) :
    Memory.wf (Memory.ofBytesFrom base bytes) = true := by
  induction bytes generalizing base with
  | nil => rfl
  | cons b bs ih =>
    unfold Memory.ofBytesFrom
    split
    · exact ih (base + 1)
    · next hb =>
      simp only [Memory.wf, Bool.and_eq_true, bne_iff_ne, ne_eq, hb, not_false_eq_true, true_and,
        List.all_eq_true, decide_eq_true_eq, ih (base + 1), and_true]
      intro c hc
      have := Memory.ofBytesFrom_mem hc
      omega

/-- Latching a frame gives the canonical form. -/
@[simp] theorem Memory.ofBytes_wf (bytes : List Byte) : Memory.wf (Memory.ofBytes bytes) = true :=
  Memory.ofBytesFrom_wf 0 bytes

theorem Memory.read_ofBytesFrom (base : Nat) (bytes : List Byte) (k : Nat) :
    Memory.read (Memory.ofBytesFrom base bytes) (base + k) = bytes.getD k Memory.unlisted := by
  induction bytes generalizing base k with
  | nil => simp [Memory.ofBytesFrom, Memory.read]
  | cons b bs ih =>
    have below : ∀ m : Memory, (∀ c ∈ m, base < c.1) → Memory.read m base = Memory.unlisted := by
      intro m hm
      induction m with
      | nil => rfl
      | cons c m ihm =>
        have hc := hm c (by simp)
        simp only [Memory.read, if_neg (Nat.ne_of_gt hc)]
        exact ihm (fun d hd => hm d (List.mem_cons_of_mem _ hd))
    have above : ∀ c ∈ Memory.ofBytesFrom (base + 1) bs, base < c.1 := by
      intro c hc
      have := Memory.ofBytesFrom_mem hc
      omega
    cases k with
    | zero =>
      unfold Memory.ofBytesFrom
      split
      · next hb => simp [below _ above, hb]
      · simp [Memory.read]
    | succ k =>
      have step := ih (base + 1) k
      rw [Nat.add_right_comm] at step
      unfold Memory.ofBytesFrom
      split
      · simpa [Nat.add_assoc] using step
      · simp only [Memory.read, if_neg (show base ≠ base + (k + 1) by omega)]
        simpa [Nat.add_assoc] using step

/-- A latched frame holds each byte at its index. -/
theorem Memory.read_ofBytes (bytes : List Byte) (k : Nat) :
    Memory.read (Memory.ofBytes bytes) k = bytes.getD k Memory.unlisted := by
  have := Memory.read_ofBytesFrom 0 bytes k
  simpa [Memory.ofBytes] using this

end Sys2Proof.Machine
end

