-- ==== Sys2Proof/Laws/State.lean ====
section
/-! SUPPORT. Each field after each update of the state, true by rfl: no later proof unfolds a record update. -/

namespace Sys2Proof.Machine

variable (s : State)

/-! ### setLock -/

@[simp] theorem State.setLock_cfg (b : Bool) : (s.setLock b).cfg = s.cfg := rfl
@[simp] theorem State.setLock_act (b : Bool) : (s.setLock b).act = s.act := rfl
@[simp] theorem State.setLock_frmLen (b : Bool) : (s.setLock b).frmLen = s.frmLen := rfl
@[simp] theorem State.setLock_frmCnt (b : Bool) : (s.setLock b).frmCnt = s.frmCnt := rfl
@[simp] theorem State.setLock_frmBytes (b : Bool) : (s.setLock b).frmBytes = s.frmBytes := rfl
@[simp] theorem State.setLock_seqState (b : Bool) : (s.setLock b).seqState = s.seqState := rfl
@[simp] theorem State.setLock_lock (b : Bool) : (s.setLock b).lock = b := rfl
@[simp] theorem State.setLock_rep (b : Bool) : (s.setLock b).rep = s.rep := rfl
@[simp] theorem State.setLock_slot (b : Bool) : (s.setLock b).slot = s.slot := rfl
@[simp] theorem State.setLock_phase (b : Bool) : (s.setLock b).phase = s.phase := rfl
@[simp] theorem State.setLock_handle (b : Bool) : (s.setLock b).handle = s.handle := rfl
@[simp] theorem State.setLock_lineCmd (b : Bool) : (s.setLock b).lineCmd = s.lineCmd := rfl
@[simp] theorem State.setLock_txStatus (b : Bool) : (s.setLock b).txStatus = s.txStatus := rfl
@[simp] theorem State.setLock_txWaiting (b : Bool) : (s.setLock b).txWaiting = s.txWaiting := rfl
@[simp] theorem State.setLock_params (b : Bool) : (s.setLock b).params = s.params := rfl
@[simp] theorem State.setLock_turns (b : Bool) : (s.setLock b).turns = s.turns := rfl
@[simp] theorem State.setLock_acquireAnswers (b : Bool) : (s.setLock b).acquireAnswers = s.acquireAnswers := rfl
@[simp] theorem State.setLock_callAnswers (b : Bool) : (s.setLock b).callAnswers = s.callAnswers := rfl
@[simp] theorem State.setLock_draws (b : Bool) : (s.setLock b).draws = s.draws := rfl
@[simp] theorem State.setLock_trace (b : Bool) : (s.setLock b).trace = s.trace := rfl
@[simp] theorem State.setLock_responses (b : Bool) : (s.setLock b).responses = s.responses := rfl

/-! ### setLineCmd -/

@[simp] theorem State.setLineCmd_cfg (l : Level) : (s.setLineCmd l).cfg = s.cfg := rfl
@[simp] theorem State.setLineCmd_act (l : Level) : (s.setLineCmd l).act = s.act := rfl
@[simp] theorem State.setLineCmd_frmLen (l : Level) : (s.setLineCmd l).frmLen = s.frmLen := rfl
@[simp] theorem State.setLineCmd_frmCnt (l : Level) : (s.setLineCmd l).frmCnt = s.frmCnt := rfl
@[simp] theorem State.setLineCmd_frmBytes (l : Level) : (s.setLineCmd l).frmBytes = s.frmBytes := rfl
@[simp] theorem State.setLineCmd_seqState (l : Level) : (s.setLineCmd l).seqState = s.seqState := rfl
@[simp] theorem State.setLineCmd_lock (l : Level) : (s.setLineCmd l).lock = s.lock := rfl
@[simp] theorem State.setLineCmd_rep (l : Level) : (s.setLineCmd l).rep = s.rep := rfl
@[simp] theorem State.setLineCmd_slot (l : Level) : (s.setLineCmd l).slot = s.slot := rfl
@[simp] theorem State.setLineCmd_phase (l : Level) : (s.setLineCmd l).phase = s.phase := rfl
@[simp] theorem State.setLineCmd_handle (l : Level) : (s.setLineCmd l).handle = s.handle := rfl
@[simp] theorem State.setLineCmd_lineCmd (l : Level) : (s.setLineCmd l).lineCmd = l := rfl
@[simp] theorem State.setLineCmd_txStatus (l : Level) : (s.setLineCmd l).txStatus = s.txStatus := rfl
@[simp] theorem State.setLineCmd_txWaiting (l : Level) : (s.setLineCmd l).txWaiting = s.txWaiting := rfl
@[simp] theorem State.setLineCmd_params (l : Level) : (s.setLineCmd l).params = s.params := rfl
@[simp] theorem State.setLineCmd_turns (l : Level) : (s.setLineCmd l).turns = s.turns := rfl
@[simp] theorem State.setLineCmd_acquireAnswers (l : Level) : (s.setLineCmd l).acquireAnswers = s.acquireAnswers := rfl
@[simp] theorem State.setLineCmd_callAnswers (l : Level) : (s.setLineCmd l).callAnswers = s.callAnswers := rfl
@[simp] theorem State.setLineCmd_draws (l : Level) : (s.setLineCmd l).draws = s.draws := rfl
@[simp] theorem State.setLineCmd_trace (l : Level) : (s.setLineCmd l).trace = s.trace := rfl
@[simp] theorem State.setLineCmd_responses (l : Level) : (s.setLineCmd l).responses = s.responses := rfl

/-! ### setTxStatus -/

@[simp] theorem State.setTxStatus_cfg (t : Status) : (s.setTxStatus t).cfg = s.cfg := rfl
@[simp] theorem State.setTxStatus_act (t : Status) : (s.setTxStatus t).act = s.act := rfl
@[simp] theorem State.setTxStatus_frmLen (t : Status) : (s.setTxStatus t).frmLen = s.frmLen := rfl
@[simp] theorem State.setTxStatus_frmCnt (t : Status) : (s.setTxStatus t).frmCnt = s.frmCnt := rfl
@[simp] theorem State.setTxStatus_frmBytes (t : Status) : (s.setTxStatus t).frmBytes = s.frmBytes := rfl
@[simp] theorem State.setTxStatus_seqState (t : Status) : (s.setTxStatus t).seqState = s.seqState := rfl
@[simp] theorem State.setTxStatus_lock (t : Status) : (s.setTxStatus t).lock = s.lock := rfl
@[simp] theorem State.setTxStatus_rep (t : Status) : (s.setTxStatus t).rep = s.rep := rfl
@[simp] theorem State.setTxStatus_slot (t : Status) : (s.setTxStatus t).slot = s.slot := rfl
@[simp] theorem State.setTxStatus_phase (t : Status) : (s.setTxStatus t).phase = s.phase := rfl
@[simp] theorem State.setTxStatus_handle (t : Status) : (s.setTxStatus t).handle = s.handle := rfl
@[simp] theorem State.setTxStatus_lineCmd (t : Status) : (s.setTxStatus t).lineCmd = s.lineCmd := rfl
@[simp] theorem State.setTxStatus_txStatus (t : Status) : (s.setTxStatus t).txStatus = t := rfl
@[simp] theorem State.setTxStatus_txWaiting (t : Status) : (s.setTxStatus t).txWaiting = s.txWaiting := rfl
@[simp] theorem State.setTxStatus_params (t : Status) : (s.setTxStatus t).params = s.params := rfl
@[simp] theorem State.setTxStatus_turns (t : Status) : (s.setTxStatus t).turns = s.turns := rfl
@[simp] theorem State.setTxStatus_acquireAnswers (t : Status) : (s.setTxStatus t).acquireAnswers = s.acquireAnswers := rfl
@[simp] theorem State.setTxStatus_callAnswers (t : Status) : (s.setTxStatus t).callAnswers = s.callAnswers := rfl
@[simp] theorem State.setTxStatus_draws (t : Status) : (s.setTxStatus t).draws = s.draws := rfl
@[simp] theorem State.setTxStatus_trace (t : Status) : (s.setTxStatus t).trace = s.trace := rfl
@[simp] theorem State.setTxStatus_responses (t : Status) : (s.setTxStatus t).responses = s.responses := rfl

/-! ### latchFrame -/

@[simp] theorem State.latchFrame_cfg (n : Nat) (c : Nat) (bs : List Byte) : (s.latchFrame n c bs).cfg = s.cfg := rfl
@[simp] theorem State.latchFrame_act (n : Nat) (c : Nat) (bs : List Byte) : (s.latchFrame n c bs).act = s.act := rfl
@[simp] theorem State.latchFrame_frmLen (n : Nat) (c : Nat) (bs : List Byte) : (s.latchFrame n c bs).frmLen = n := rfl
@[simp] theorem State.latchFrame_frmCnt (n : Nat) (c : Nat) (bs : List Byte) : (s.latchFrame n c bs).frmCnt = c := rfl
@[simp] theorem State.latchFrame_frmBytes (n : Nat) (c : Nat) (bs : List Byte) : (s.latchFrame n c bs).frmBytes = Memory.ofBytes bs := rfl
@[simp] theorem State.latchFrame_seqState (n : Nat) (c : Nat) (bs : List Byte) : (s.latchFrame n c bs).seqState = s.seqState := rfl
@[simp] theorem State.latchFrame_lock (n : Nat) (c : Nat) (bs : List Byte) : (s.latchFrame n c bs).lock = s.lock := rfl
@[simp] theorem State.latchFrame_rep (n : Nat) (c : Nat) (bs : List Byte) : (s.latchFrame n c bs).rep = s.rep := rfl
@[simp] theorem State.latchFrame_slot (n : Nat) (c : Nat) (bs : List Byte) : (s.latchFrame n c bs).slot = s.slot := rfl
@[simp] theorem State.latchFrame_phase (n : Nat) (c : Nat) (bs : List Byte) : (s.latchFrame n c bs).phase = s.phase := rfl
@[simp] theorem State.latchFrame_handle (n : Nat) (c : Nat) (bs : List Byte) : (s.latchFrame n c bs).handle = s.handle := rfl
@[simp] theorem State.latchFrame_lineCmd (n : Nat) (c : Nat) (bs : List Byte) : (s.latchFrame n c bs).lineCmd = s.lineCmd := rfl
@[simp] theorem State.latchFrame_txStatus (n : Nat) (c : Nat) (bs : List Byte) : (s.latchFrame n c bs).txStatus = s.txStatus := rfl
@[simp] theorem State.latchFrame_txWaiting (n : Nat) (c : Nat) (bs : List Byte) : (s.latchFrame n c bs).txWaiting = s.txWaiting := rfl
@[simp] theorem State.latchFrame_params (n : Nat) (c : Nat) (bs : List Byte) : (s.latchFrame n c bs).params = s.params := rfl
@[simp] theorem State.latchFrame_turns (n : Nat) (c : Nat) (bs : List Byte) : (s.latchFrame n c bs).turns = s.turns := rfl
@[simp] theorem State.latchFrame_acquireAnswers (n : Nat) (c : Nat) (bs : List Byte) : (s.latchFrame n c bs).acquireAnswers = s.acquireAnswers := rfl
@[simp] theorem State.latchFrame_callAnswers (n : Nat) (c : Nat) (bs : List Byte) : (s.latchFrame n c bs).callAnswers = s.callAnswers := rfl
@[simp] theorem State.latchFrame_draws (n : Nat) (c : Nat) (bs : List Byte) : (s.latchFrame n c bs).draws = s.draws := rfl
@[simp] theorem State.latchFrame_trace (n : Nat) (c : Nat) (bs : List Byte) : (s.latchFrame n c bs).trace = s.trace := rfl
@[simp] theorem State.latchFrame_responses (n : Nat) (c : Nat) (bs : List Byte) : (s.latchFrame n c bs).responses = s.responses := rfl

/-! ### setCfg -/

@[simp] theorem State.setCfg_cfg (c : TimingConfig) : (s.setCfg c).cfg = c := rfl
@[simp] theorem State.setCfg_act (c : TimingConfig) : (s.setCfg c).act = s.act := rfl
@[simp] theorem State.setCfg_frmLen (c : TimingConfig) : (s.setCfg c).frmLen = s.frmLen := rfl
@[simp] theorem State.setCfg_frmCnt (c : TimingConfig) : (s.setCfg c).frmCnt = s.frmCnt := rfl
@[simp] theorem State.setCfg_frmBytes (c : TimingConfig) : (s.setCfg c).frmBytes = s.frmBytes := rfl
@[simp] theorem State.setCfg_seqState (c : TimingConfig) : (s.setCfg c).seqState = s.seqState := rfl
@[simp] theorem State.setCfg_lock (c : TimingConfig) : (s.setCfg c).lock = s.lock := rfl
@[simp] theorem State.setCfg_rep (c : TimingConfig) : (s.setCfg c).rep = s.rep := rfl
@[simp] theorem State.setCfg_slot (c : TimingConfig) : (s.setCfg c).slot = s.slot := rfl
@[simp] theorem State.setCfg_phase (c : TimingConfig) : (s.setCfg c).phase = s.phase := rfl
@[simp] theorem State.setCfg_handle (c : TimingConfig) : (s.setCfg c).handle = s.handle := rfl
@[simp] theorem State.setCfg_lineCmd (c : TimingConfig) : (s.setCfg c).lineCmd = s.lineCmd := rfl
@[simp] theorem State.setCfg_txStatus (c : TimingConfig) : (s.setCfg c).txStatus = s.txStatus := rfl
@[simp] theorem State.setCfg_txWaiting (c : TimingConfig) : (s.setCfg c).txWaiting = s.txWaiting := rfl
@[simp] theorem State.setCfg_params (c : TimingConfig) : (s.setCfg c).params = s.params := rfl
@[simp] theorem State.setCfg_turns (c : TimingConfig) : (s.setCfg c).turns = s.turns := rfl
@[simp] theorem State.setCfg_acquireAnswers (c : TimingConfig) : (s.setCfg c).acquireAnswers = s.acquireAnswers := rfl
@[simp] theorem State.setCfg_callAnswers (c : TimingConfig) : (s.setCfg c).callAnswers = s.callAnswers := rfl
@[simp] theorem State.setCfg_draws (c : TimingConfig) : (s.setCfg c).draws = s.draws := rfl
@[simp] theorem State.setCfg_trace (c : TimingConfig) : (s.setCfg c).trace = s.trace := rfl
@[simp] theorem State.setCfg_responses (c : TimingConfig) : (s.setCfg c).responses = s.responses := rfl

/-! ### setSeqState -/

@[simp] theorem State.setSeqState_cfg (q : SeqState) : (s.setSeqState q).cfg = s.cfg := rfl
@[simp] theorem State.setSeqState_act (q : SeqState) : (s.setSeqState q).act = s.act := rfl
@[simp] theorem State.setSeqState_frmLen (q : SeqState) : (s.setSeqState q).frmLen = s.frmLen := rfl
@[simp] theorem State.setSeqState_frmCnt (q : SeqState) : (s.setSeqState q).frmCnt = s.frmCnt := rfl
@[simp] theorem State.setSeqState_frmBytes (q : SeqState) : (s.setSeqState q).frmBytes = s.frmBytes := rfl
@[simp] theorem State.setSeqState_seqState (q : SeqState) : (s.setSeqState q).seqState = q := rfl
@[simp] theorem State.setSeqState_lock (q : SeqState) : (s.setSeqState q).lock = s.lock := rfl
@[simp] theorem State.setSeqState_rep (q : SeqState) : (s.setSeqState q).rep = s.rep := rfl
@[simp] theorem State.setSeqState_slot (q : SeqState) : (s.setSeqState q).slot = s.slot := rfl
@[simp] theorem State.setSeqState_phase (q : SeqState) : (s.setSeqState q).phase = s.phase := rfl
@[simp] theorem State.setSeqState_handle (q : SeqState) : (s.setSeqState q).handle = s.handle := rfl
@[simp] theorem State.setSeqState_lineCmd (q : SeqState) : (s.setSeqState q).lineCmd = s.lineCmd := rfl
@[simp] theorem State.setSeqState_txStatus (q : SeqState) : (s.setSeqState q).txStatus = s.txStatus := rfl
@[simp] theorem State.setSeqState_txWaiting (q : SeqState) : (s.setSeqState q).txWaiting = s.txWaiting := rfl
@[simp] theorem State.setSeqState_params (q : SeqState) : (s.setSeqState q).params = s.params := rfl
@[simp] theorem State.setSeqState_turns (q : SeqState) : (s.setSeqState q).turns = s.turns := rfl
@[simp] theorem State.setSeqState_acquireAnswers (q : SeqState) : (s.setSeqState q).acquireAnswers = s.acquireAnswers := rfl
@[simp] theorem State.setSeqState_callAnswers (q : SeqState) : (s.setSeqState q).callAnswers = s.callAnswers := rfl
@[simp] theorem State.setSeqState_draws (q : SeqState) : (s.setSeqState q).draws = s.draws := rfl
@[simp] theorem State.setSeqState_trace (q : SeqState) : (s.setSeqState q).trace = s.trace := rfl
@[simp] theorem State.setSeqState_responses (q : SeqState) : (s.setSeqState q).responses = s.responses := rfl

/-! ### setSeq -/

@[simp] theorem State.setSeq_cfg (r k : Nat) (p : Phase) : (s.setSeq r k p).cfg = s.cfg := rfl
@[simp] theorem State.setSeq_act (r k : Nat) (p : Phase) : (s.setSeq r k p).act = s.act := rfl
@[simp] theorem State.setSeq_frmLen (r k : Nat) (p : Phase) : (s.setSeq r k p).frmLen = s.frmLen := rfl
@[simp] theorem State.setSeq_frmCnt (r k : Nat) (p : Phase) : (s.setSeq r k p).frmCnt = s.frmCnt := rfl
@[simp] theorem State.setSeq_frmBytes (r k : Nat) (p : Phase) : (s.setSeq r k p).frmBytes = s.frmBytes := rfl
@[simp] theorem State.setSeq_seqState (r k : Nat) (p : Phase) : (s.setSeq r k p).seqState = s.seqState := rfl
@[simp] theorem State.setSeq_lock (r k : Nat) (p : Phase) : (s.setSeq r k p).lock = s.lock := rfl
@[simp] theorem State.setSeq_rep (r k : Nat) (p : Phase) : (s.setSeq r k p).rep = r := rfl
@[simp] theorem State.setSeq_slot (r k : Nat) (p : Phase) : (s.setSeq r k p).slot = k := rfl
@[simp] theorem State.setSeq_phase (r k : Nat) (p : Phase) : (s.setSeq r k p).phase = p := rfl
@[simp] theorem State.setSeq_handle (r k : Nat) (p : Phase) : (s.setSeq r k p).handle = s.handle := rfl
@[simp] theorem State.setSeq_lineCmd (r k : Nat) (p : Phase) : (s.setSeq r k p).lineCmd = s.lineCmd := rfl
@[simp] theorem State.setSeq_txStatus (r k : Nat) (p : Phase) : (s.setSeq r k p).txStatus = s.txStatus := rfl
@[simp] theorem State.setSeq_txWaiting (r k : Nat) (p : Phase) : (s.setSeq r k p).txWaiting = s.txWaiting := rfl
@[simp] theorem State.setSeq_params (r k : Nat) (p : Phase) : (s.setSeq r k p).params = s.params := rfl
@[simp] theorem State.setSeq_turns (r k : Nat) (p : Phase) : (s.setSeq r k p).turns = s.turns := rfl
@[simp] theorem State.setSeq_acquireAnswers (r k : Nat) (p : Phase) : (s.setSeq r k p).acquireAnswers = s.acquireAnswers := rfl
@[simp] theorem State.setSeq_callAnswers (r k : Nat) (p : Phase) : (s.setSeq r k p).callAnswers = s.callAnswers := rfl
@[simp] theorem State.setSeq_draws (r k : Nat) (p : Phase) : (s.setSeq r k p).draws = s.draws := rfl
@[simp] theorem State.setSeq_trace (r k : Nat) (p : Phase) : (s.setSeq r k p).trace = s.trace := rfl
@[simp] theorem State.setSeq_responses (r k : Nat) (p : Phase) : (s.setSeq r k p).responses = s.responses := rfl

/-! ### setHandle -/

@[simp] theorem State.setHandle_cfg (h : Option LineHandle) : (s.setHandle h).cfg = s.cfg := rfl
@[simp] theorem State.setHandle_act (h : Option LineHandle) : (s.setHandle h).act = s.act := rfl
@[simp] theorem State.setHandle_frmLen (h : Option LineHandle) : (s.setHandle h).frmLen = s.frmLen := rfl
@[simp] theorem State.setHandle_frmCnt (h : Option LineHandle) : (s.setHandle h).frmCnt = s.frmCnt := rfl
@[simp] theorem State.setHandle_frmBytes (h : Option LineHandle) : (s.setHandle h).frmBytes = s.frmBytes := rfl
@[simp] theorem State.setHandle_seqState (h : Option LineHandle) : (s.setHandle h).seqState = s.seqState := rfl
@[simp] theorem State.setHandle_lock (h : Option LineHandle) : (s.setHandle h).lock = s.lock := rfl
@[simp] theorem State.setHandle_rep (h : Option LineHandle) : (s.setHandle h).rep = s.rep := rfl
@[simp] theorem State.setHandle_slot (h : Option LineHandle) : (s.setHandle h).slot = s.slot := rfl
@[simp] theorem State.setHandle_phase (h : Option LineHandle) : (s.setHandle h).phase = s.phase := rfl
@[simp] theorem State.setHandle_handle (h : Option LineHandle) : (s.setHandle h).handle = h := rfl
@[simp] theorem State.setHandle_lineCmd (h : Option LineHandle) : (s.setHandle h).lineCmd = s.lineCmd := rfl
@[simp] theorem State.setHandle_txStatus (h : Option LineHandle) : (s.setHandle h).txStatus = s.txStatus := rfl
@[simp] theorem State.setHandle_txWaiting (h : Option LineHandle) : (s.setHandle h).txWaiting = s.txWaiting := rfl
@[simp] theorem State.setHandle_params (h : Option LineHandle) : (s.setHandle h).params = s.params := rfl
@[simp] theorem State.setHandle_turns (h : Option LineHandle) : (s.setHandle h).turns = s.turns := rfl
@[simp] theorem State.setHandle_acquireAnswers (h : Option LineHandle) : (s.setHandle h).acquireAnswers = s.acquireAnswers := rfl
@[simp] theorem State.setHandle_callAnswers (h : Option LineHandle) : (s.setHandle h).callAnswers = s.callAnswers := rfl
@[simp] theorem State.setHandle_draws (h : Option LineHandle) : (s.setHandle h).draws = s.draws := rfl
@[simp] theorem State.setHandle_trace (h : Option LineHandle) : (s.setHandle h).trace = s.trace := rfl
@[simp] theorem State.setHandle_responses (h : Option LineHandle) : (s.setHandle h).responses = s.responses := rfl

/-! ### snapshot -/

@[simp] theorem State.snapshot_cfg : (s.snapshot).cfg = s.cfg := rfl
@[simp] theorem State.snapshot_act : (s.snapshot).act = s.cfg := rfl
@[simp] theorem State.snapshot_frmLen : (s.snapshot).frmLen = s.frmLen := rfl
@[simp] theorem State.snapshot_frmCnt : (s.snapshot).frmCnt = s.frmCnt := rfl
@[simp] theorem State.snapshot_frmBytes : (s.snapshot).frmBytes = s.frmBytes := rfl
@[simp] theorem State.snapshot_seqState : (s.snapshot).seqState = s.seqState := rfl
@[simp] theorem State.snapshot_lock : (s.snapshot).lock = s.lock := rfl
@[simp] theorem State.snapshot_rep : (s.snapshot).rep = s.rep := rfl
@[simp] theorem State.snapshot_slot : (s.snapshot).slot = s.slot := rfl
@[simp] theorem State.snapshot_phase : (s.snapshot).phase = s.phase := rfl
@[simp] theorem State.snapshot_handle : (s.snapshot).handle = s.handle := rfl
@[simp] theorem State.snapshot_lineCmd : (s.snapshot).lineCmd = s.lineCmd := rfl
@[simp] theorem State.snapshot_txStatus : (s.snapshot).txStatus = s.txStatus := rfl
@[simp] theorem State.snapshot_txWaiting : (s.snapshot).txWaiting = s.txWaiting := rfl
@[simp] theorem State.snapshot_params : (s.snapshot).params = s.params := rfl
@[simp] theorem State.snapshot_turns : (s.snapshot).turns = s.turns := rfl
@[simp] theorem State.snapshot_acquireAnswers : (s.snapshot).acquireAnswers = s.acquireAnswers := rfl
@[simp] theorem State.snapshot_callAnswers : (s.snapshot).callAnswers = s.callAnswers := rfl
@[simp] theorem State.snapshot_draws : (s.snapshot).draws = s.draws := rfl
@[simp] theorem State.snapshot_trace : (s.snapshot).trace = s.trace := rfl
@[simp] theorem State.snapshot_responses : (s.snapshot).responses = s.responses := rfl

/-! ### discard -/

@[simp] theorem State.discard_cfg : (s.discard).cfg = s.cfg := rfl
@[simp] theorem State.discard_act : (s.discard).act = s.deadRegs.act := rfl
@[simp] theorem State.discard_frmLen : (s.discard).frmLen = s.deadRegs.frmLen := rfl
@[simp] theorem State.discard_frmCnt : (s.discard).frmCnt = s.deadRegs.frmCnt := rfl
@[simp] theorem State.discard_frmBytes : (s.discard).frmBytes = Memory.ofBytes s.deadRegs.frmBytes := rfl
@[simp] theorem State.discard_seqState : (s.discard).seqState = s.seqState := rfl
@[simp] theorem State.discard_lock : (s.discard).lock = s.lock := rfl
@[simp] theorem State.discard_rep : (s.discard).rep = s.deadRegs.rep := rfl
@[simp] theorem State.discard_slot : (s.discard).slot = s.deadRegs.slot := rfl
@[simp] theorem State.discard_phase : (s.discard).phase = s.deadRegs.phase := rfl
@[simp] theorem State.discard_handle : (s.discard).handle = s.handle := rfl
@[simp] theorem State.discard_lineCmd : (s.discard).lineCmd = s.lineCmd := rfl
@[simp] theorem State.discard_txStatus : (s.discard).txStatus = s.txStatus := rfl
@[simp] theorem State.discard_txWaiting : (s.discard).txWaiting = s.txWaiting := rfl
@[simp] theorem State.discard_params : (s.discard).params = s.params := rfl
@[simp] theorem State.discard_turns : (s.discard).turns = s.turns := rfl
@[simp] theorem State.discard_acquireAnswers : (s.discard).acquireAnswers = s.acquireAnswers := rfl
@[simp] theorem State.discard_callAnswers : (s.discard).callAnswers = s.callAnswers := rfl
@[simp] theorem State.discard_draws : (s.discard).draws = s.draws + 1 := rfl
@[simp] theorem State.discard_trace : (s.discard).trace = s.trace := rfl
@[simp] theorem State.discard_responses : (s.discard).responses = s.responses := rfl

/-! ### holdRequest -/

@[simp] theorem State.holdRequest_cfg (r : SendRequest) : (s.holdRequest r).cfg = s.cfg := rfl
@[simp] theorem State.holdRequest_act (r : SendRequest) : (s.holdRequest r).act = s.act := rfl
@[simp] theorem State.holdRequest_frmLen (r : SendRequest) : (s.holdRequest r).frmLen = s.frmLen := rfl
@[simp] theorem State.holdRequest_frmCnt (r : SendRequest) : (s.holdRequest r).frmCnt = s.frmCnt := rfl
@[simp] theorem State.holdRequest_frmBytes (r : SendRequest) : (s.holdRequest r).frmBytes = s.frmBytes := rfl
@[simp] theorem State.holdRequest_seqState (r : SendRequest) : (s.holdRequest r).seqState = s.seqState := rfl
@[simp] theorem State.holdRequest_lock (r : SendRequest) : (s.holdRequest r).lock = s.lock := rfl
@[simp] theorem State.holdRequest_rep (r : SendRequest) : (s.holdRequest r).rep = s.rep := rfl
@[simp] theorem State.holdRequest_slot (r : SendRequest) : (s.holdRequest r).slot = s.slot := rfl
@[simp] theorem State.holdRequest_phase (r : SendRequest) : (s.holdRequest r).phase = s.phase := rfl
@[simp] theorem State.holdRequest_handle (r : SendRequest) : (s.holdRequest r).handle = s.handle := rfl
@[simp] theorem State.holdRequest_lineCmd (r : SendRequest) : (s.holdRequest r).lineCmd = s.lineCmd := rfl
@[simp] theorem State.holdRequest_txStatus (r : SendRequest) : (s.holdRequest r).txStatus = s.txStatus := rfl
@[simp] theorem State.holdRequest_txWaiting (r : SendRequest) : (s.holdRequest r).txWaiting = s.txWaiting ++ [r] := rfl
@[simp] theorem State.holdRequest_params (r : SendRequest) : (s.holdRequest r).params = s.params := rfl
@[simp] theorem State.holdRequest_turns (r : SendRequest) : (s.holdRequest r).turns = s.turns := rfl
@[simp] theorem State.holdRequest_acquireAnswers (r : SendRequest) : (s.holdRequest r).acquireAnswers = s.acquireAnswers := rfl
@[simp] theorem State.holdRequest_callAnswers (r : SendRequest) : (s.holdRequest r).callAnswers = s.callAnswers := rfl
@[simp] theorem State.holdRequest_draws (r : SendRequest) : (s.holdRequest r).draws = s.draws := rfl
@[simp] theorem State.holdRequest_trace (r : SendRequest) : (s.holdRequest r).trace = s.trace := rfl
@[simp] theorem State.holdRequest_responses (r : SendRequest) : (s.holdRequest r).responses = s.responses := rfl

/-! ### dropWaiting -/

@[simp] theorem State.dropWaiting_cfg (k : Nat) : (s.dropWaiting k).cfg = s.cfg := rfl
@[simp] theorem State.dropWaiting_act (k : Nat) : (s.dropWaiting k).act = s.act := rfl
@[simp] theorem State.dropWaiting_frmLen (k : Nat) : (s.dropWaiting k).frmLen = s.frmLen := rfl
@[simp] theorem State.dropWaiting_frmCnt (k : Nat) : (s.dropWaiting k).frmCnt = s.frmCnt := rfl
@[simp] theorem State.dropWaiting_frmBytes (k : Nat) : (s.dropWaiting k).frmBytes = s.frmBytes := rfl
@[simp] theorem State.dropWaiting_seqState (k : Nat) : (s.dropWaiting k).seqState = s.seqState := rfl
@[simp] theorem State.dropWaiting_lock (k : Nat) : (s.dropWaiting k).lock = s.lock := rfl
@[simp] theorem State.dropWaiting_rep (k : Nat) : (s.dropWaiting k).rep = s.rep := rfl
@[simp] theorem State.dropWaiting_slot (k : Nat) : (s.dropWaiting k).slot = s.slot := rfl
@[simp] theorem State.dropWaiting_phase (k : Nat) : (s.dropWaiting k).phase = s.phase := rfl
@[simp] theorem State.dropWaiting_handle (k : Nat) : (s.dropWaiting k).handle = s.handle := rfl
@[simp] theorem State.dropWaiting_lineCmd (k : Nat) : (s.dropWaiting k).lineCmd = s.lineCmd := rfl
@[simp] theorem State.dropWaiting_txStatus (k : Nat) : (s.dropWaiting k).txStatus = s.txStatus := rfl
@[simp] theorem State.dropWaiting_txWaiting (k : Nat) : (s.dropWaiting k).txWaiting = s.txWaiting.eraseIdx k := rfl
@[simp] theorem State.dropWaiting_params (k : Nat) : (s.dropWaiting k).params = s.params := rfl
@[simp] theorem State.dropWaiting_turns (k : Nat) : (s.dropWaiting k).turns = s.turns := rfl
@[simp] theorem State.dropWaiting_acquireAnswers (k : Nat) : (s.dropWaiting k).acquireAnswers = s.acquireAnswers := rfl
@[simp] theorem State.dropWaiting_callAnswers (k : Nat) : (s.dropWaiting k).callAnswers = s.callAnswers := rfl
@[simp] theorem State.dropWaiting_draws (k : Nat) : (s.dropWaiting k).draws = s.draws := rfl
@[simp] theorem State.dropWaiting_trace (k : Nat) : (s.dropWaiting k).trace = s.trace := rfl
@[simp] theorem State.dropWaiting_responses (k : Nat) : (s.dropWaiting k).responses = s.responses := rfl

/-! ### popTurn -/

@[simp] theorem State.popTurn_cfg : (s.popTurn).cfg = s.cfg := rfl
@[simp] theorem State.popTurn_act : (s.popTurn).act = s.act := rfl
@[simp] theorem State.popTurn_frmLen : (s.popTurn).frmLen = s.frmLen := rfl
@[simp] theorem State.popTurn_frmCnt : (s.popTurn).frmCnt = s.frmCnt := rfl
@[simp] theorem State.popTurn_frmBytes : (s.popTurn).frmBytes = s.frmBytes := rfl
@[simp] theorem State.popTurn_seqState : (s.popTurn).seqState = s.seqState := rfl
@[simp] theorem State.popTurn_lock : (s.popTurn).lock = s.lock := rfl
@[simp] theorem State.popTurn_rep : (s.popTurn).rep = s.rep := rfl
@[simp] theorem State.popTurn_slot : (s.popTurn).slot = s.slot := rfl
@[simp] theorem State.popTurn_phase : (s.popTurn).phase = s.phase := rfl
@[simp] theorem State.popTurn_handle : (s.popTurn).handle = s.handle := rfl
@[simp] theorem State.popTurn_lineCmd : (s.popTurn).lineCmd = s.lineCmd := rfl
@[simp] theorem State.popTurn_txStatus : (s.popTurn).txStatus = s.txStatus := rfl
@[simp] theorem State.popTurn_txWaiting : (s.popTurn).txWaiting = s.txWaiting := rfl
@[simp] theorem State.popTurn_params : (s.popTurn).params = s.params := rfl
@[simp] theorem State.popTurn_turns : (s.popTurn).turns = s.turns.tail := rfl
@[simp] theorem State.popTurn_acquireAnswers : (s.popTurn).acquireAnswers = s.acquireAnswers := rfl
@[simp] theorem State.popTurn_callAnswers : (s.popTurn).callAnswers = s.callAnswers := rfl
@[simp] theorem State.popTurn_draws : (s.popTurn).draws = s.draws := rfl
@[simp] theorem State.popTurn_trace : (s.popTurn).trace = s.trace := rfl
@[simp] theorem State.popTurn_responses : (s.popTurn).responses = s.responses := rfl

/-! ### tookAcquireAnswer -/

@[simp] theorem State.tookAcquireAnswer_cfg : (s.tookAcquireAnswer).cfg = s.cfg := rfl
@[simp] theorem State.tookAcquireAnswer_act : (s.tookAcquireAnswer).act = s.act := rfl
@[simp] theorem State.tookAcquireAnswer_frmLen : (s.tookAcquireAnswer).frmLen = s.frmLen := rfl
@[simp] theorem State.tookAcquireAnswer_frmCnt : (s.tookAcquireAnswer).frmCnt = s.frmCnt := rfl
@[simp] theorem State.tookAcquireAnswer_frmBytes : (s.tookAcquireAnswer).frmBytes = s.frmBytes := rfl
@[simp] theorem State.tookAcquireAnswer_seqState : (s.tookAcquireAnswer).seqState = s.seqState := rfl
@[simp] theorem State.tookAcquireAnswer_lock : (s.tookAcquireAnswer).lock = s.lock := rfl
@[simp] theorem State.tookAcquireAnswer_rep : (s.tookAcquireAnswer).rep = s.rep := rfl
@[simp] theorem State.tookAcquireAnswer_slot : (s.tookAcquireAnswer).slot = s.slot := rfl
@[simp] theorem State.tookAcquireAnswer_phase : (s.tookAcquireAnswer).phase = s.phase := rfl
@[simp] theorem State.tookAcquireAnswer_handle : (s.tookAcquireAnswer).handle = s.handle := rfl
@[simp] theorem State.tookAcquireAnswer_lineCmd : (s.tookAcquireAnswer).lineCmd = s.lineCmd := rfl
@[simp] theorem State.tookAcquireAnswer_txStatus : (s.tookAcquireAnswer).txStatus = s.txStatus := rfl
@[simp] theorem State.tookAcquireAnswer_txWaiting : (s.tookAcquireAnswer).txWaiting = s.txWaiting := rfl
@[simp] theorem State.tookAcquireAnswer_params : (s.tookAcquireAnswer).params = s.params := rfl
@[simp] theorem State.tookAcquireAnswer_turns : (s.tookAcquireAnswer).turns = s.turns := rfl
@[simp] theorem State.tookAcquireAnswer_acquireAnswers : (s.tookAcquireAnswer).acquireAnswers = s.acquireAnswers.tail := rfl
@[simp] theorem State.tookAcquireAnswer_callAnswers : (s.tookAcquireAnswer).callAnswers = s.callAnswers := rfl
@[simp] theorem State.tookAcquireAnswer_draws : (s.tookAcquireAnswer).draws = s.draws + 1 := rfl
@[simp] theorem State.tookAcquireAnswer_trace : (s.tookAcquireAnswer).trace = s.trace := rfl
@[simp] theorem State.tookAcquireAnswer_responses : (s.tookAcquireAnswer).responses = s.responses := rfl

/-! ### tookCallAnswer -/

@[simp] theorem State.tookCallAnswer_cfg : (s.tookCallAnswer).cfg = s.cfg := rfl
@[simp] theorem State.tookCallAnswer_act : (s.tookCallAnswer).act = s.act := rfl
@[simp] theorem State.tookCallAnswer_frmLen : (s.tookCallAnswer).frmLen = s.frmLen := rfl
@[simp] theorem State.tookCallAnswer_frmCnt : (s.tookCallAnswer).frmCnt = s.frmCnt := rfl
@[simp] theorem State.tookCallAnswer_frmBytes : (s.tookCallAnswer).frmBytes = s.frmBytes := rfl
@[simp] theorem State.tookCallAnswer_seqState : (s.tookCallAnswer).seqState = s.seqState := rfl
@[simp] theorem State.tookCallAnswer_lock : (s.tookCallAnswer).lock = s.lock := rfl
@[simp] theorem State.tookCallAnswer_rep : (s.tookCallAnswer).rep = s.rep := rfl
@[simp] theorem State.tookCallAnswer_slot : (s.tookCallAnswer).slot = s.slot := rfl
@[simp] theorem State.tookCallAnswer_phase : (s.tookCallAnswer).phase = s.phase := rfl
@[simp] theorem State.tookCallAnswer_handle : (s.tookCallAnswer).handle = s.handle := rfl
@[simp] theorem State.tookCallAnswer_lineCmd : (s.tookCallAnswer).lineCmd = s.lineCmd := rfl
@[simp] theorem State.tookCallAnswer_txStatus : (s.tookCallAnswer).txStatus = s.txStatus := rfl
@[simp] theorem State.tookCallAnswer_txWaiting : (s.tookCallAnswer).txWaiting = s.txWaiting := rfl
@[simp] theorem State.tookCallAnswer_params : (s.tookCallAnswer).params = s.params := rfl
@[simp] theorem State.tookCallAnswer_turns : (s.tookCallAnswer).turns = s.turns := rfl
@[simp] theorem State.tookCallAnswer_acquireAnswers : (s.tookCallAnswer).acquireAnswers = s.acquireAnswers := rfl
@[simp] theorem State.tookCallAnswer_callAnswers : (s.tookCallAnswer).callAnswers = s.callAnswers.tail := rfl
@[simp] theorem State.tookCallAnswer_draws : (s.tookCallAnswer).draws = s.draws + 1 := rfl
@[simp] theorem State.tookCallAnswer_trace : (s.tookCallAnswer).trace = s.trace := rfl
@[simp] theorem State.tookCallAnswer_responses : (s.tookCallAnswer).responses = s.responses := rfl

/-! ### drew -/

@[simp] theorem State.drew_cfg : (s.drew).cfg = s.cfg := rfl
@[simp] theorem State.drew_act : (s.drew).act = s.act := rfl
@[simp] theorem State.drew_frmLen : (s.drew).frmLen = s.frmLen := rfl
@[simp] theorem State.drew_frmCnt : (s.drew).frmCnt = s.frmCnt := rfl
@[simp] theorem State.drew_frmBytes : (s.drew).frmBytes = s.frmBytes := rfl
@[simp] theorem State.drew_seqState : (s.drew).seqState = s.seqState := rfl
@[simp] theorem State.drew_lock : (s.drew).lock = s.lock := rfl
@[simp] theorem State.drew_rep : (s.drew).rep = s.rep := rfl
@[simp] theorem State.drew_slot : (s.drew).slot = s.slot := rfl
@[simp] theorem State.drew_phase : (s.drew).phase = s.phase := rfl
@[simp] theorem State.drew_handle : (s.drew).handle = s.handle := rfl
@[simp] theorem State.drew_lineCmd : (s.drew).lineCmd = s.lineCmd := rfl
@[simp] theorem State.drew_txStatus : (s.drew).txStatus = s.txStatus := rfl
@[simp] theorem State.drew_txWaiting : (s.drew).txWaiting = s.txWaiting := rfl
@[simp] theorem State.drew_params : (s.drew).params = s.params := rfl
@[simp] theorem State.drew_turns : (s.drew).turns = s.turns := rfl
@[simp] theorem State.drew_acquireAnswers : (s.drew).acquireAnswers = s.acquireAnswers := rfl
@[simp] theorem State.drew_callAnswers : (s.drew).callAnswers = s.callAnswers := rfl
@[simp] theorem State.drew_draws : (s.drew).draws = s.draws + 1 := rfl
@[simp] theorem State.drew_trace : (s.drew).trace = s.trace := rfl
@[simp] theorem State.drew_responses : (s.drew).responses = s.responses := rfl

/-! ### log -/

@[simp] theorem State.log_cfg (e : Event) : (s.log e).cfg = s.cfg := rfl
@[simp] theorem State.log_act (e : Event) : (s.log e).act = s.act := rfl
@[simp] theorem State.log_frmLen (e : Event) : (s.log e).frmLen = s.frmLen := rfl
@[simp] theorem State.log_frmCnt (e : Event) : (s.log e).frmCnt = s.frmCnt := rfl
@[simp] theorem State.log_frmBytes (e : Event) : (s.log e).frmBytes = s.frmBytes := rfl
@[simp] theorem State.log_seqState (e : Event) : (s.log e).seqState = s.seqState := rfl
@[simp] theorem State.log_lock (e : Event) : (s.log e).lock = s.lock := rfl
@[simp] theorem State.log_rep (e : Event) : (s.log e).rep = s.rep := rfl
@[simp] theorem State.log_slot (e : Event) : (s.log e).slot = s.slot := rfl
@[simp] theorem State.log_phase (e : Event) : (s.log e).phase = s.phase := rfl
@[simp] theorem State.log_handle (e : Event) : (s.log e).handle = s.handle := rfl
@[simp] theorem State.log_lineCmd (e : Event) : (s.log e).lineCmd = s.lineCmd := rfl
@[simp] theorem State.log_txStatus (e : Event) : (s.log e).txStatus = s.txStatus := rfl
@[simp] theorem State.log_txWaiting (e : Event) : (s.log e).txWaiting = s.txWaiting := rfl
@[simp] theorem State.log_params (e : Event) : (s.log e).params = s.params := rfl
@[simp] theorem State.log_turns (e : Event) : (s.log e).turns = s.turns := rfl
@[simp] theorem State.log_acquireAnswers (e : Event) : (s.log e).acquireAnswers = s.acquireAnswers := rfl
@[simp] theorem State.log_callAnswers (e : Event) : (s.log e).callAnswers = s.callAnswers := rfl
@[simp] theorem State.log_draws (e : Event) : (s.log e).draws = s.draws := rfl
@[simp] theorem State.log_trace (e : Event) : (s.log e).trace = s.trace ++ [e] := rfl
@[simp] theorem State.log_responses (e : Event) : (s.log e).responses = s.responses := rfl

/-! ### respond -/

@[simp] theorem State.respond_cfg (r : Response) : (s.respond r).cfg = s.cfg := rfl
@[simp] theorem State.respond_act (r : Response) : (s.respond r).act = s.act := rfl
@[simp] theorem State.respond_frmLen (r : Response) : (s.respond r).frmLen = s.frmLen := rfl
@[simp] theorem State.respond_frmCnt (r : Response) : (s.respond r).frmCnt = s.frmCnt := rfl
@[simp] theorem State.respond_frmBytes (r : Response) : (s.respond r).frmBytes = s.frmBytes := rfl
@[simp] theorem State.respond_seqState (r : Response) : (s.respond r).seqState = s.seqState := rfl
@[simp] theorem State.respond_lock (r : Response) : (s.respond r).lock = s.lock := rfl
@[simp] theorem State.respond_rep (r : Response) : (s.respond r).rep = s.rep := rfl
@[simp] theorem State.respond_slot (r : Response) : (s.respond r).slot = s.slot := rfl
@[simp] theorem State.respond_phase (r : Response) : (s.respond r).phase = s.phase := rfl
@[simp] theorem State.respond_handle (r : Response) : (s.respond r).handle = s.handle := rfl
@[simp] theorem State.respond_lineCmd (r : Response) : (s.respond r).lineCmd = s.lineCmd := rfl
@[simp] theorem State.respond_txStatus (r : Response) : (s.respond r).txStatus = s.txStatus := rfl
@[simp] theorem State.respond_txWaiting (r : Response) : (s.respond r).txWaiting = s.txWaiting := rfl
@[simp] theorem State.respond_params (r : Response) : (s.respond r).params = s.params := rfl
@[simp] theorem State.respond_turns (r : Response) : (s.respond r).turns = s.turns := rfl
@[simp] theorem State.respond_acquireAnswers (r : Response) : (s.respond r).acquireAnswers = s.acquireAnswers := rfl
@[simp] theorem State.respond_callAnswers (r : Response) : (s.respond r).callAnswers = s.callAnswers := rfl
@[simp] theorem State.respond_draws (r : Response) : (s.respond r).draws = s.draws := rfl
@[simp] theorem State.respond_trace (r : Response) : (s.respond r).trace = s.trace := rfl
@[simp] theorem State.respond_responses (r : Response) : (s.respond r).responses = s.responses ++ [r] := rfl

end Sys2Proof.Machine
end

