-- ==== Sys2Proof/Laws/Ops.lean ====
section
/-! SUPPORT. For each shared operation, once, everything it can do. -/

namespace Sys2Proof.Machine

/-! ### Reset -/

/-- The frame buffer at reset is in canonical form. -/
theorem State.resetWith_memory_wf (p : Config.Params) :
    Memory.wf (State.resetWith p).frmBytes = true := rfl

/-! ### The Line Interface call -/

/-- A call answers a next state exactly where a handle is held. -/
theorem performCall_eq_next {c : LineCall} {onOk : State → State} {s t : State} :
    performCall c onOk s = .next t ↔ s.handle.isSome = true ∧ t = s.afterCall c onOk := by
  unfold performCall
  cases s.handle <;> simp [eq_comm]

theorem State.afterCall_ok {c : LineCall} {onOk : State → State} {s : State} (h : s.callAnswer = .ok) :
    s.afterCall c onOk = onOk (c.effect (s.issue c)) := by
  simp [State.afterCall, h]

theorem State.afterCall_fault {c : LineCall} {onOk : State → State} {s : State}
    (h : s.callAnswer = .fault) : s.afterCall c onOk = (s.issue c).abort := by
  simp [State.afterCall, h]

/-- What a call answered `Ok` writes. -/
theorem LineCall.effect_issue (c : LineCall) (s : State) :
    c.effect (s.issue c) =
      { s with
        callAnswers := s.callAnswers.tail
        draws := s.draws + 1
        trace := s.trace ++ [c.event s.callAnswer]
        lineCmd := match c with
          | .setLevel l => l
          | .delay _ => s.lineCmd } := by
  cases c <;> rfl

/-- What a faulted call and its abort write, with the dead registers named once (R130). -/
theorem State.issue_abort (c : LineCall) (s : State) :
    ∃ d : Config.DeadRegs, ∃ b : CallAnswer, d.fits s.params.widths = true ∧
      (s.issue c).abort =
        { s with
          callAnswers := s.callAnswers.tail.tail
          draws := s.draws + 3
          trace := s.trace ++ [c.event s.callAnswer, .setLevel .low b, .release]
          handle := none
          lineCmd := .low
          txStatus := .lineFault
          seqState := .failed
          act := d.act
          frmLen := d.frmLen
          frmCnt := d.frmCnt
          frmBytes := Memory.ofBytes d.frmBytes
          rep := d.rep
          slot := d.slot
          phase := d.phase } :=
  ⟨(Config.deadRegs (s.draws + 2)).clip s.params.widths, (s.issue c).callAnswer, by simp, by
    simp [State.deadRegs, State.abort, State.issue, State.fail, State.discard, State.setSeqState, State.setTxStatus,
      State.setLineCmd, State.setHandle, State.log, State.tookCallAnswer]⟩

/-- What the release step writes (R98). -/
theorem State.finishSend_eq (s : State) :
    ∃ d : Config.DeadRegs, d.fits s.params.widths = true ∧
      s.finishSend =
        { s with
          draws := s.draws + 1
          trace := s.trace ++ [.release]
          responses := s.responses ++ [.txRsp .lockHolder .ok]
          handle := none
          txStatus := .ok
          lock := false
          seqState := .idle
          act := d.act
          frmLen := d.frmLen
          frmCnt := d.frmCnt
          frmBytes := Memory.ofBytes d.frmBytes
          rep := d.rep
          slot := d.slot
          phase := d.phase } :=
  ⟨s.deadRegs, by simp [State.deadRegs], by
    simp [State.deadRegs, State.finishSend, State.discard, State.respond, State.setSeqState, State.setLock,
      State.setTxStatus, State.setHandle, State.log]⟩

/-- What the return from an error writes (R103). -/
theorem State.deliverFailure_eq (s : State) :
    ∃ d : Config.DeadRegs, d.fits s.params.widths = true ∧
      s.deliverFailure =
        { s with
          draws := s.draws + 1
          responses := s.responses ++ [.txRsp .lockHolder s.txStatus]
          txStatus := d.txStatus
          lock := false
          seqState := .idle
          act := d.act
          frmLen := d.frmLen
          frmCnt := d.frmCnt
          frmBytes := Memory.ofBytes d.frmBytes
          rep := d.rep
          slot := d.slot
          phase := d.phase } :=
  ⟨s.deadRegs, by simp [State.deadRegs], by
    simp [State.deadRegs, State.deliverFailure, State.discard, State.respond, State.setSeqState, State.setLock,
      State.setTxStatus]⟩

/-- The position after a call of EMIT (R80): only `slot` and `phase` can change. -/
theorem State.advance_eq (s : State) :
    s.advance =
      { s with
        slot := match s.phase with
          | .holdSecond => s.slot + 1
          | _ => s.slot
        phase := match s.phase with
          | .setFirst => .holdFirst
          | .holdFirst => .setSecond
          | .setSecond => .holdSecond
          | .holdSecond => .setFirst } := by
  unfold State.advance
  cases h : s.phase <;> rfl

/-! ### The frame -/

/-- A read below FRM_CNT gives the byte, any other read faults. -/
theorem State.memRead_ok {s : State} {idx : Nat} (h : idx < s.frmCnt) :
    s.memRead idx = .ok (Memory.read s.frmBytes idx) := by
  simp [State.memRead, h]

/-- The bit fetch of an index whose byte is in the frame (R36, R40). -/
theorem State.frameBit_ok {s : State} {i : Nat} (h : i < 8 * s.frmCnt) :
    s.frameBit i = .ok ((Memory.read s.frmBytes (i / 8)).getLsbD (7 - i % 8)) := by
  have : i / 8 < s.frmCnt := by omega
  simp [State.frameBit, State.memRead_ok this]

/-! ### Fetching and running -/

/-- A code's operation is what runs. -/
theorem runCode_eq_exec {c : Code} {i : Instr} {s : State} (h : decode s.params.widths c = .ok i) :
    runCode c s = exec i s := by
  simp [runCode, h]

/-- Every move that answers a next state ran an operation, or is one of the moves without one. -/
theorem runCode_eq_next {c : Code} {s t : State} (h : runCode c s = .next t) :
    ∃ i, decode s.params.widths c = .ok i ∧ exec i s = .next t := by
  unfold runCode at h
  split at h
  · next i hi => exact ⟨i, hi, h⟩
  · cases h

/-- The symbol operation a position of a SEND in progress selects (R97). -/
theorem symbolCode_cases {s : State} {c : Code} (h : s.symbolCode = .ok c) :
    (1 ≤ s.slot ∧ s.slot ≤ s.frmLen ∧ ∃ b, s.frameBit (s.slot - 1) = .ok b ∧ c = .frameBit b) ∨
    ((s.slot = 0 ∨ s.frmLen < s.slot) ∧ c = .implicit s.slot s.frmLen) := by
  unfold State.symbolCode at h
  split at h
  · next hs =>
    split at h
    · cases h
    · next b hb => exact .inl ⟨hs.1, hs.2, b, hb, by cases h; rfl⟩
  · next hs => exact .inr ⟨by omega, by cases h; rfl⟩

end Sys2Proof.Machine
end

