-- ==== Sys2Proof/Laws/PerInstr.lean ====
section
/-! SUPPORT. A statement about every instruction as syntax: at every width, its encoding has the width the spec gives
it, which at the default widths is that of its row of spec/opcode_table.json. -/

namespace Sys2Proof

/-- How many bits a code has. -/
def Code.width (w : Config.Widths) : Code → Nat
  | .cfgReq _ => w.record + 1
  | .txReq len _ => len
  | .frameBit _ => 1
  | .implicit _ _ => 0
  | .lineCall len _ => len

/-- The width of an instruction (R53, R57, R66). -/
def Instr.width (w : Config.Widths) : Instr → Nat
  | .readConfig => w.record + 1
  | .setConfig _ => w.record + 1
  | .send _ _ bytes => w.len + w.cnt + 8 * bytes.length
  | .symStart => 0
  | .symBit0 => 1
  | .symBit1 => 1
  | .symEnd => 0
  | .forceLow => 0
  | .liAcquire => 2
  | .liSetLevel _ => 3
  | .liDelay _ => w.dur + 2
  | .liRelease => 2

end Sys2Proof

namespace Sys2Proof.Laws.EncodedWidth

/-- The encoding of an instruction is as wide as the spec says. -/
def Statement (i : Instr) : Prop := ∀ w : Config.Widths, (encode w i).width w = i.width w

theorem readConfig : Statement .readConfig := fun _ => rfl

theorem setConfig (candidate : RawConfig) : Statement (.setConfig candidate) := fun _ => rfl

theorem send (bitLength : Nat) (byteCount : Nat) (bytes : List Byte) :
    Statement (.send bitLength byteCount bytes) := fun _ => rfl

theorem symStart : Statement .symStart := fun _ => rfl

theorem symBit0 : Statement .symBit0 := fun _ => rfl

theorem symBit1 : Statement .symBit1 := fun _ => rfl

theorem symEnd : Statement .symEnd := fun _ => rfl

theorem forceLow : Statement .forceLow := fun _ => rfl

theorem liAcquire : Statement .liAcquire := fun _ => rfl

theorem liSetLevel (l : Level) : Statement (.liSetLevel l) := fun _ => rfl

theorem liDelay (n : Nat) : Statement (.liDelay n) := fun _ => rfl

theorem liRelease : Statement .liRelease := fun _ => rfl

end Sys2Proof.Laws.EncodedWidth
end

