-- ==== Sys2Proof/Laws/Step.lean ====
section
/-! SUPPORT. Everything a step can do, said once: the moves of each agent. Cite `step_move` instead of unfolding
`step`. -/

namespace Sys2Proof.Machine

/-- The call and the continuation a position of a SEND in progress selects (R97): a phase of EMIT in the slots up
to the end marker, FORCE_LOW in the last. -/
inductive Selected (s : State) : LineCall → (State → State) → Prop where
  | emit (h l : Nat) : s.slot ≤ s.frmLen + 1 →
      Selected s (emitCall h l s.act.format s.phase) State.advance
  | forceLow : s.slot = s.frmLen + 2 → Selected s (.setLevel .low) State.nextRepetition

/-- The moves: `Move s t s'` says that the turn `t`, taken in `s` (with the turn already used up), can end in
`s'`. -/
inductive Move (s : State) : Turn → State → Prop where
  | readConfig (w : Nat) : decode s.params.widths (.cfgReq w) = .ok .readConfig →
      Move s (.cfg w) (s.respond (.cfgRsp .ok (s.cfg.toRaw.pack s.params.widths)))
  | rejectConfig (w : Nat) (c : RawConfig) : decode s.params.widths (.cfgReq w) = .ok (.setConfig c) →
      c.validate = none → Move s (.cfg w) (s.respondSetConfig .invalidFormat)
  | setConfig (w : Nat) (c : RawConfig) (v : TimingConfig) :
      decode s.params.widths (.cfgReq w) = .ok (.setConfig c) → c.validate = some v →
      Move s (.cfg w) ((s.setCfg v).respondSetConfig .ok)
  | accept (len val : Nat) (r : SendRequest) :
      decode s.params.widths (.txReq len val) = .ok (.send r.bitLength r.byteCount r.bytes) → s.seqState = .idle →
      Move s (.tx len val) (s.acceptSend r.bitLength r.byteCount r.bytes)
  | meetBusy (len val : Nat) (r : SendRequest) :
      decode s.params.widths (.txReq len val) = .ok (.send r.bitLength r.byteCount r.bytes) → s.seqState ≠ .idle →
      Move s (.tx len val) (s.meetBusy r)
  | present (k : Nat) (r : SendRequest) : s.txWaiting[k]? = some r → s.seqState = .idle →
      Move s (.waiting k) ((s.dropWaiting k).acceptSend r.bitLength r.byteCount r.bytes)
  | notPresented (k : Nat) : Move s (.waiting k) s
  | withdraw (k : Nat) : Move s (.withdraw k) (s.dropWaiting k)
  | reset : s.seqState = .idle → Move s .reset s.resetEvent
  | rest : s.seqState = .idle → Move s .sequencer s
  | acquire : s.seqState = .acquiring → Move s .sequencer s.afterAcquire
  | release (h : LineHandle) : s.seqState = .sending → s.rep = s.act.repeatCount →
      s.handle = some h → Move s .sequencer s.finishSend
  | call (c : LineCall) (onOk : State → State) (h : LineHandle) : s.seqState = .sending →
      s.rep ≠ s.act.repeatCount → s.handle = some h → Selected s c onOk →
      Move s .sequencer (s.afterCall c onOk)
  | deliver : s.seqState = .failed → Move s .sequencer s.deliverFailure

/-- What SEND does at the TX port. -/
theorem execSend_next {r : SendRequest} {s t : State}
    (h : execSend r.bitLength r.byteCount r.bytes s = .next t) :
    (s.seqState = .idle ∧ t = s.acceptSend r.bitLength r.byteCount r.bytes) ∨
    (s.seqState ≠ .idle ∧ t = s.meetBusy r) := by
  unfold execSend at h
  split_ifs at h with _ hi
  · exact .inl ⟨hi, by cases h; rfl⟩
  · exact .inr ⟨hi, by cases h; rfl⟩

/-- A call at the selected position is a move. -/
theorem performCall_move {c : LineCall} {onOk : State → State} {s t : State} (hq : s.seqState = .sending)
    (hr : s.rep ≠ s.act.repeatCount) (hs : Selected s c onOk) (h : performCall c onOk s = .next t) :
    Move s .sequencer t := by
  obtain ⟨hh, rfl⟩ := performCall_eq_next.mp h
  obtain ⟨hd, hh⟩ := Option.isSome_iff_exists.mp hh
  exact .call c onOk hd hq hr hh hs

/-- A sequencer step that answers a next state is one of its moves. -/
theorem sequencerStep_move {s t : State} (h : sequencerStep s = .next t) : Move s .sequencer t := by
  unfold sequencerStep at h
  cases hq : s.seqState with
  | idle => simp only [hq] at h; cases h; exact .rest hq
  | failed => simp only [hq] at h; cases h; exact .deliver hq
  | acquiring =>
    simp only [hq] at h
    have h : execLiAcquire s = .next t := h
    simp only [execLiAcquire, hq, if_true] at h
    cases h
    exact .acquire hq
  | sending =>
    simp only [hq] at h
    split at h
    · next hr =>
      have h : execLiRelease s = .next t := h
      unfold execLiRelease at h
      split at h
      · cases h
      · next hd hh => cases h; exact .release hd hq hr hh
    · next hr =>
      split at h
      · cases h
      · next c hc =>
        obtain ⟨i, hi, hx⟩ := runCode_eq_next h
        rcases symbolCode_cases hc with ⟨_, hs, b, _, rfl⟩ | ⟨_, rfl⟩
        · have hs : s.slot ≤ s.frmLen + 1 := by omega
          cases b <;> cases hi <;> exact performCall_move hq hr (.emit _ _ hs) hx
        · simp only [decode, decodeImplicit] at hi
          split_ifs at hi with h0 h1 h2 h3 <;> cases hi
          · exact performCall_move hq hr (.emit _ _ (by omega)) hx
          · exact performCall_move hq hr (.emit _ _ (by omega)) hx
          · exact performCall_move hq hr (.forceLow h3) hx

/-- Every step that answers a next state is one of the moves. -/
theorem step_move {s t : State} (h : step s = .next t) : Move s.popTurn s.turn t := by
  unfold step at h
  generalize s.popTurn = u at h ⊢
  cases ht : s.turn with
  | cfg w =>
    simp only [ht, runTurn] at h
    obtain ⟨i, hi, hx⟩ := runCode_eq_next h
    rcases (decodeCfgReq_ok hi).2 with ⟨_, rfl⟩ | ⟨_, rfl⟩
    · simp only [exec, execSetConfig] at hx
      split at hx
      · next hv => cases hx; exact .rejectConfig w _ hi hv
      · next v hv => cases hx; exact .setConfig w _ v hi hv
    · cases hx
      exact .readConfig w hi
  | tx len val =>
    simp only [ht, runTurn] at h
    obtain ⟨i, hi, hx⟩ := runCode_eq_next h
    obtain ⟨n, cnt, bytes, rfl, _⟩ := decodeTxReq_ok hi
    rcases execSend_next (r := ⟨n, cnt, bytes⟩) hx with ⟨hq, rfl⟩ | ⟨hq, rfl⟩
    · exact .accept len val ⟨n, cnt, bytes⟩ hi hq
    · exact .meetBusy len val ⟨n, cnt, bytes⟩ hi hq
  | waiting k =>
    simp only [ht, runTurn, presentWaiting] at h
    split at h
    · cases h; exact .notPresented k
    · next r hr =>
      split at h
      · next hq =>
        rcases execSend_next h with ⟨_, rfl⟩ | ⟨hq', _⟩
        · exact .present k r hr hq
        · exact absurd hq hq'
      · cases h; exact .notPresented k
  | withdraw k => simp only [ht, runTurn] at h; cases h; exact .withdraw k
  | reset =>
    simp only [ht, runTurn, resetTurn] at h
    split at h
    · next hq => cases h; exact .reset hq
    · cases h
  | sequencer => simp only [ht, runTurn] at h; exact sequencerStep_move h

/-! ### The use of the line (R117) -/

/-- The use of the line after one more event. -/
theorem lineUse_concat (trace : List Event) (e : Event) :
    lineUse (trace ++ [e]) = (lineUse trace).bind (fun u => u.after e) := by
  simp [lineUse, List.foldl_append]

end Sys2Proof.Machine
end

