-- ==== Sys2Proof/Tests/Slice0.lean ====
section
/-! SUPPORT. Tests against spec/95_test_vectors.md and the worked examples of the rules, and a witness for the
hypotheses of each statement. -/

open Sys2Proof Sys2Proof.Machine

namespace Sys2Proof.Tests

/-! ### Helpers -/

/-- The source's configuration, C1 of spec/95_test_vectors.md, as a candidate with a format code. -/
def c1Raw (format : Nat) : RawConfig :=
  { startHigh := 100, startLow := 50, endHigh := 80, endLow := 40, bit0High := 20, bit0Low := 60,
    bit1High := 60, bit1Low := 20, format := format, repeatCount := 2 }

/-- C1 as it is stored, with a format. -/
def c1 (format : BitFormat) : TimingConfig :=
  { startHigh := 100, startLow := 50, endHigh := 80, endLow := 40, bit0High := 20, bit0Low := 60,
    bit1High := 60, bit1Low := 20, format := format, repeatCount := 2 }

/-- The moment the line is acquired for SEND(4, [0xA0]) under C1. -/
def acquiring : State :=
  { State.reset with
    cfg := c1 .highThenLow, seqState := .acquiring, lock := true, frmLen := 4, frmCnt := 1,
    frmBytes := [(0, 0xA0)] }

/-- A position of that SEND, with the Line Interface's next answers. -/
def sending (format : BitFormat) (slot : Nat) (phase : Phase) (answers : List CallAnswer) : State :=
  { acquiring with
    seqState := .sending, act := c1 format, slot := slot, phase := phase, handle := some 7,
    callAnswers := answers, trace := [.acquireOk, .setLevel .low .ok] }

/-- A field of the next state, none where there is no next state. -/
def ofNext {α : Type} (f : State → α) (r : Result) : Option α :=
  match r with
  | .next t => some (f t)
  | .fault _ => none
  | .refused _ => none

/-- Widths other than the default ones, for records small enough to write out: DUR_W 20, REP_W 4, LEN_W 12,
CNT_W 5, FMT_W 2. -/
def narrow : Config.Widths := { dur := 20, rep := 4, len := 12, cnt := 5, fmt := 2 }

/-! ### Well-formedness -/

/-- R57: the byte count must be the number of bytes. -/
theorem test_wellFormed_refuses_wrong_count :
    (Instr.send 8 2 [0xFF]).wellFormed Config.defaultWidths = false := by decide

/-- R8: each operand must fit its width. -/
theorem test_wellFormed_refuses_wide :
    (Instr.liDelay 0x100000).wellFormed narrow = false ∧ (Instr.send 4096 0 []).wellFormed narrow = false ∧
    (Instr.send 0 32 (List.replicate 32 0)).wellFormed narrow = false ∧
    (Instr.setConfig { c1Raw 0 with bit1Low := 0x100000 }).wellFormed narrow = false ∧
    (Instr.setConfig (c1Raw 4)).wellFormed narrow = false ∧
    (Instr.setConfig { c1Raw 0 with repeatCount := 16 }).wellFormed narrow = false := by decide

theorem test_wellFormed_accepts :
    (Instr.send 12 2 [0x5A, 0xC0]).wellFormed Config.defaultWidths = true ∧
    (Instr.setConfig (c1Raw 3)).wellFormed narrow = true ∧
    (Instr.liDelay 0xFFFFF).wellFormed narrow = true := by decide

/-! ### Decoding, from words of the spec -/

/-- V6: 75 zero digits. -/
theorem test_decode_readConfig : decode Config.defaultWidths (.cfgReq 0) = .ok .readConfig := by decide +kernel

/-- V5: the word of C1. -/
theorem test_decode_setConfig :
    decode Config.defaultWidths
      (.cfgReq 0x10000000200000000140000003c0000003c0000001400000028000000500000003200000064)
      = .ok (.setConfig (c1Raw 0)) := by decide +kernel

/-- V5: format 2, start_high 999. -/
theorem test_decode_setConfig_invalid_format :
    decode Config.defaultWidths
      (.cfgReq 0x10000000202000000140000003c0000003c00000014000000280000005000000032000003e7)
      = .ok (.setConfig { c1Raw 2 with startHigh := 999 }) := by decide +kernel

/-- R54, the clause on other widths, by hand: C1 with format 1 at DUR_W 20, FMT_W 2, REP_W 4. The eight durations are
five hexadecimal digits each, above them the format's two bits, then the repeat count's four, then the operation
bit: `1_0010_01` is 0x49. -/
theorem test_decode_setConfig_narrow :
    decode narrow (.cfgReq 0x49000140003c0003c00014000280005000003200064) =
      .error .wordTooWide ∧
    decode narrow (.cfgReq 0x49000140003c0003c0001400028000500003200064)
      = .ok (.setConfig (c1Raw 1)) ∧
    (c1Raw 1).pack narrow = 0x9000140003c0003c0001400028000500003200064 := by decide

/-- R66 at DUR_W 20: `10` and then twenty bits. -/
theorem test_decode_delay_narrow :
    decode narrow (.lineCall 22 0x200064) = .ok (.liDelay 100) ∧
    decode narrow (.lineCall 34 0x200000064) = .error .noSuchLineCall := by decide

/-- V17: SEND(4, [0xA0]). -/
theorem test_decode_send :
    decode Config.defaultWidths (.txReq 72 0xa00000000100000004) = .ok (.send 4 1 [0xA0]) := by decide

/-- R57: a byte missing. -/
theorem test_decode_send_short :
    decode Config.defaultWidths (.txReq 64 0x100000004) = .error .txReqWrongLength := by decide

/-- R60. -/
theorem test_decode_frameBits :
    decode narrow (.frameBit false) = .ok .symBit0 ∧ decode narrow (.frameBit true) = .ok .symBit1 := by decide

/-- R61: the slots of a frame of four bits. -/
theorem test_decode_slots :
    decode narrow (.implicit 0 4) = .ok .symStart ∧ decode narrow (.implicit 5 4) = .ok .symEnd ∧
    decode narrow (.implicit 6 4) = .ok .forceLow ∧ decode narrow (.implicit 4 4) = .error .slotHoldsData ∧
    decode narrow (.implicit 7 4) = .error .slotPastEnd := by decide

/-- V17: `00`, `11`, `010`, `011`, and Delay(100). -/
theorem test_decode_lineCalls :
    decode Config.defaultWidths (.lineCall 2 0b00) = .ok .liAcquire ∧ decode Config.defaultWidths (.lineCall 2 0b11) = .ok .liRelease ∧
    decode Config.defaultWidths (.lineCall 3 0b010) = .ok (.liSetLevel .low) ∧
    decode Config.defaultWidths (.lineCall 3 0b011) = .ok (.liSetLevel .high) ∧
    decode Config.defaultWidths (.lineCall 34 0b1000000000000000000000000001100100) = .ok (.liDelay 100) ∧
    decode Config.defaultWidths (.lineCall 2 0b01) = .error .noSuchLineCall := by decide

/-- V6: the response word of READ_CONFIG under C1. -/
theorem test_cfgRsp_word :
    cfgRspWord Config.defaultWidths .ok ((c1Raw 0).pack Config.defaultWidths)
      = 0x00000001000000000a0000001e0000001e0000000a000000140000002800000019000000320 := by decide +kernel

/-! ### The table's words as the first instruction (log 14) -/

theorem test_first_setConfig :
    ofNext (fun t => t.cfg)
      (step (State.reset.withFetchWord 304
        0x10000000200000000140000003c0000003c0000001400000028000000500000003200000064))
      = some (c1 .highThenLow) := by decide +kernel

theorem test_first_delay :
    ofNext (fun t => t.trace) (step (State.reset.withFetchWord 40 0x200000064)) = some [.delay 100 .ok] := by
  decide

theorem test_first_symBit1 :
    ofNext (fun t => t.trace) (step (State.reset.withFetchWord 8 1)) = some [.setLevel .high .ok] := by
  decide

/-! ### One step of each operation -/

/-- V5: C1 with format field 1. -/
theorem test_setConfig_stores :
    ofNext (fun t => t.cfg) (exec (.setConfig (c1Raw 1)) State.reset) = some (c1 .lowThenHigh) := by decide

/-- V5: a rejected candidate leaves CFG as it is. -/
theorem test_setConfig_rejects :
    ofNext (fun t => t.cfg) (exec (.setConfig { c1Raw 2 with startHigh := 999 }) acquiring)
      = some (c1 .highThenLow) := by decide

/-- V6: after a SET_CONFIG of C1. -/
theorem test_readConfig_returns :
    ofNext (fun t => t.responses) (exec .readConfig acquiring)
      = some [.cfgRsp .ok ((c1Raw 0).pack Config.defaultWidths)] := by decide +kernel

/-- V11: SEND(8, [0xFF]) is accepted, SEND(9, [0xFF]) is not. -/
theorem test_send_bound :
    ofNext (fun t => t.seqState) (exec (.send 8 1 [0xFF]) State.reset) = some .acquiring ∧
    ofNext (fun t => (t.seqState, t.txStatus)) (exec (.send 9 1 [0xFF]) State.reset)
      = some (.failed, .invalidBitLength) := by decide

/-- V11: 4294967295 bits in 2^29 bytes do not wrap. -/
theorem test_send_bound_no_wrap : lengthExceeds 4294967295 536870912 = false := by decide

/-- V3: the calls of SYM_START, `High(100), Low(50)`. -/
theorem test_symStart :
    ofNext (fun t => t.trace) (exec .symStart { sending .highThenLow 0 .holdSecond [.ok] with trace := [] })
      = some [.delay 50 .ok] := by decide

/-- V3: SYM_BIT0 under LowThenHigh begins with Low held for 60. -/
theorem test_symBit0 :
    ofNext (fun t => t.trace) (exec .symBit0 { sending .lowThenHigh 2 .holdFirst [.ok] with trace := [] })
      = some [.delay 60 .ok] := by decide

/-- V3: LINE_CMD after SYM_BIT1 under LowThenHigh is High. -/
theorem test_symBit1 :
    ofNext (fun t => (t.lineCmd, t.trace))
      (exec .symBit1 { sending .lowThenHigh 1 .setSecond [.ok] with trace := [] })
      = some (.high, [.setLevel .high .ok]) := by decide

/-- V3: SYM_END holds 80 first under HighThenLow, and then goes on. -/
theorem test_symEnd :
    ofNext (fun t => (t.slot, t.trace))
      (exec .symEnd { sending .highThenLow 5 .holdFirst [.ok] with trace := [] })
      = some (5, [.delay 80 .ok]) := by decide

/-- V3: FORCE_LOW is `SetLevel(Low)` alone and counts the repetition (R85). -/
theorem test_forceLow :
    ofNext (fun t => (t.lineCmd, t.rep, t.slot, t.trace))
      (exec .forceLow { sending .lowThenHigh 6 .setFirst [.ok] with lineCmd := .high, trace := [] })
      = some (.low, 1, 0, [.setLevel .low .ok]) := by decide

/-- V13: LI_ACQUIRE answers Err. -/
theorem test_liAcquire_err :
    ofNext (fun t => (t.seqState, t.txStatus, t.trace))
      (exec .liAcquire { acquiring with acquireAnswers := [.err] })
      = some (.failed, .lineUnavailable, [.acquireErr]) := by decide

/-- R92: LI_ACQUIRE answers Ok. -/
theorem test_liAcquire_ok :
    ofNext (fun t => (t.seqState, t.handle, t.act))
      (exec .liAcquire { acquiring with acquireAnswers := [.ok 5] })
      = some (.sending, some 5, c1 .highThenLow) := by decide

/-- V14, first row: the call that faults, the forced low, the release. -/
theorem test_liSetLevel_fault :
    ofNext (fun t => (t.seqState, t.handle, t.lineCmd, t.txStatus, t.trace))
      (exec (.liSetLevel .high) { sending .highThenLow 0 .setFirst [.fault, .ok] with trace := [] })
      = some (.failed, none, .low, .lineFault,
          [.setLevel .high .fault, .setLevel .low .ok, .release]) := by decide

/-- V14, last row: the best-effort call faults too. -/
theorem test_liDelay_fault :
    ofNext (fun t => (t.lineCmd, t.txStatus, t.trace))
      (exec (.liDelay 60) { sending .highThenLow 1 .holdFirst [.fault, .fault] with trace := [] })
      = some (.low, .lineFault, [.delay 60 .fault, .setLevel .low .fault, .release]) := by decide

/-- R98. -/
theorem test_liRelease :
    ofNext (fun t => (t.seqState, t.lock, t.handle, t.responses))
      (exec .liRelease (sending .highThenLow 0 .setFirst []))
      = some (.idle, false, none, [.txRsp .lockHolder .ok]) := by decide

/-- V8: the bits of [0x5A, 0xC0] with 12 bits. -/
theorem test_frameBits :
    { acquiring with frmLen := 12, frmCnt := 2, frmBytes := Memory.ofBytes [0x5A, 0xC0] }.frameBits
      = [false, true, false, true, true, false, true, false, true, true, false, false] := by decide

/-- V14, row 3: the pulse list of a faulted trace (R68). -/
theorem test_pulses_of_a_fault :
    pulses [.acquireOk, .setLevel .high .ok, .delay 100 .ok, .setLevel .low .ok, .delay 50 .ok,
        .setLevel .high .ok, .delay 60 .fault, .setLevel .low .ok, .release]
      = [⟨.high, 100⟩, ⟨.low, 50⟩, ⟨.high, 60⟩, ⟨.low, 0⟩] := by decide

/-- V1: the pulses of one repetition. -/
theorem test_repPulses :
    repPulses (c1 .highThenLow) [true, false, true, false]
      = [⟨.high, 100⟩, ⟨.low, 50⟩, ⟨.high, 60⟩, ⟨.low, 20⟩, ⟨.high, 20⟩, ⟨.low, 60⟩, ⟨.high, 60⟩, ⟨.low, 20⟩,
         ⟨.high, 20⟩, ⟨.low, 60⟩, ⟨.high, 80⟩, ⟨.low, 40⟩, ⟨.low, 0⟩] := by decide

/-! ### Witnesses: a state and operands that meet each statement's hypotheses -/

theorem witness_levelCodes : (0 : Nat) < 2 ∧ (1 : Nat) < 2 := by decide

theorem witness_decodeEncodeAgree :
    (Instr.send 12 2 [0x5A, 0xC0]).wellFormed narrow = true ∧
    (Instr.send 0 0 []).wellFormed Config.defaultWidths = true ∧
    (Instr.setConfig (c1Raw 255)).wellFormed Config.defaultWidths = true ∧
    (Instr.liDelay 4294967295).wellFormed Config.defaultWidths = true := by decide

theorem witness_decodedIsWellFormed :
    decode Config.defaultWidths (.txReq 64 0) = .ok (.send 0 0 []) := by decide

theorem witness_encodeDecodeAgree :
    decode narrow (.cfgReq 0x49000140003c0003c0001400028000500003200064) = .ok (.setConfig (c1Raw 1)) ∧
    decode Config.defaultWidths (.txReq 72 0xa00000000100000004) = .ok (.send 4 1 [0xA0]) ∧
    decode narrow (.frameBit true) = .ok .symBit1 ∧
    decode Config.defaultWidths (.lineCall 34 0x2FFFFFFFF) = .ok (.liDelay 4294967295) := by decide

theorem witness_readConfigRecordIgnored : 2 ^ narrow.record - 1 < 2 ^ narrow.record := by decide

theorem witness_recordFieldPositions :
    (c1Raw 3).fits narrow = true ∧ (c1Raw 255).fits Config.defaultWidths = true := by decide

theorem witness_responseWords : (c1Raw 1).pack narrow < 2 ^ narrow.record := by decide

theorem witness_admitted :
    Config.defaultParams.admitted = true ∧ State.reset.params.admitted = true ∧
    ({ Config.defaultParams with widths := narrow } : Config.Params).admitted = true := by decide

theorem witness_formatCodes : 2 ≤ (c1Raw 2).format ∧ 2 ≤ (c1Raw 255).format := by decide

/-- The accepting clause of SetConfigIsAtomic, each format. -/
theorem witness_setConfigIsAtomic_accepts :
    ((c1Raw 0).format = 0 ∧ BitFormat.highThenLow = .highThenLow) ∧
    ((c1Raw 1).format = 1 ∧ BitFormat.lowThenHigh = .lowThenHigh) := by decide

theorem witness_setConfigIsAtomic_rejects : (c1Raw 2).format ≠ 0 ∧ (c1Raw 2).format ≠ 1 := by decide

theorem witness_invalidFormatExactlyWhen :
    (ofNext (fun t => t.cfg) (exec (.setConfig (c1Raw 2)) State.reset)).isSome = true ∧
    2 ≤ (c1Raw 2).format := by decide

/-- Also of BitLengthCheck, its accepting case at the edge of eight bits in one byte (V11). -/
theorem witness_sendAccepted :
    State.reset.seqState = .idle ∧ 1 ≤ State.reset.params.maxBytes ∧
    8 ≤ 8 * 1 := by decide

/-- Also of BitLengthCheck, its rejecting case one bit further (V11). -/
theorem witness_sendTooLong :
    State.reset.seqState = .idle ∧ 1 ≤ State.reset.params.maxBytes ∧
    8 * 1 < 9 := by decide

theorem witness_sendWhileBusy_block :
    acquiring.seqState ≠ .idle ∧ 1 ≤ acquiring.params.maxBytes ∧
    acquiring.params.busyPolicy = .block := by decide

/-- A machine whose BUSY_POLICY is `Reject`. -/
def rejecting : State := { acquiring with params := { acquiring.params with busyPolicy := .reject } }

theorem witness_sendWhileBusy_reject :
    rejecting.seqState ≠ .idle ∧ 1 ≤ rejecting.params.maxBytes ∧
    rejecting.params.busyPolicy = .reject := by decide

/-- SEND(1, [0x80]) waiting at the port, about to be presented. -/
def presenting (q : SeqState) : State :=
  { State.reset with
    seqState := q, turns := [.waiting 0], txWaiting := [{ bitLength := 1, byteCount := 1, bytes := [0x80] }] }

theorem witness_sendWhileBusy_waiting :
    (presenting .idle).turns = [.waiting 0] ∧
    (presenting .idle).txWaiting[0]? = some { bitLength := 1, byteCount := 1, bytes := [0x80] } ∧
    (presenting .idle).seqState = .idle ∧ (presenting .sending).seqState ≠ .idle := by decide

/-- A machine with MAX_BYTES 0. -/
def noBytes : State := { State.reset with params := { State.reset.params with maxBytes := 0 } }

theorem witness_sendAboveMaxBytes : noBytes.params.maxBytes < 1 := by decide

theorem witness_frameBitOrder :
    State.reset.seqState = .idle ∧ (Instr.send 12 2 [0x5A, 0xC0]).wellFormed State.reset.params.widths = true ∧
    (ofNext (fun t => t.frmLen) (exec (.send 12 2 [0x5A, 0xC0]) State.reset)).isSome = true ∧
    15 < 8 * [(0x5A : Byte), 0xC0].length := by decide

/-- V12: SEND(12, [0x5A, 0xC0]) and SEND(12, [0x5A, 0xCF, 0xFF]). -/
theorem witness_unusedBits :
    (ofNext (fun t => t.frmLen) (exec (.send 12 2 [0x5A, 0xC0]) State.reset)).isSome = true ∧
    (ofNext (fun t => t.frmLen) (exec (.send 12 3 [0x5A, 0xCF, 0xFF]) State.reset)).isSome = true ∧
    ∀ i, i < 12 →
      (([0x5A, 0xC0] : List Byte).getD (i / 8) 0).getLsbD (7 - i % 8) =
        (([0x5A, 0xCF, 0xFF] : List Byte).getD (i / 8) 0).getLsbD (7 - i % 8) := by decide

theorem witness_readOutsideFrame :
    acquiring.frmCnt ≤ 1 ∧ 0 < acquiring.frmCnt := by decide

theorem witness_acquisitionStep :
    { acquiring with acquireAnswers := [.ok 5] }.seqState = .acquiring ∧
    { acquiring with acquireAnswers := [.ok 5] }.acquireAnswer = .ok 5 ∧
    { acquiring with acquireAnswers := [.err] }.seqState = .acquiring ∧
    { acquiring with acquireAnswers := [.err] }.acquireAnswer = .err := by decide

/-- A held handle and a call that answers `Ok`: of SetLevelOk, DelayOk, ReleaseStep and ForceLowStep. -/
theorem witness_callOk :
    (sending .highThenLow 6 .setFirst [.ok]).handle = some 7 ∧
    (sending .highThenLow 6 .setFirst [.ok]).callAnswer = .ok := by decide

theorem witness_abortOnFault :
    (sending .highThenLow 1 .holdFirst [.fault]).handle = some 7 ∧
    (sending .highThenLow 1 .holdFirst [.fault]).callAnswer = .fault ∧
    symbolDurations (sending .highThenLow 1 .holdFirst [.fault]).act .symBit1 = some (60, 20) := by decide

theorem witness_noCallOutsideTheDiscipline :
    acquiring.handle = none ∧ (symbolDurations acquiring.act .symEnd).isSome = true ∧
    State.reset.seqState ≠ .acquiring := by decide

/-- The four symbols in each phase: of the SymbolSets and SymbolHolds statements and SymbolIsItsCallThenAdvance. -/
theorem witness_symbols :
    symbolDurations (c1 .lowThenHigh) .symStart = some (100, 50) ∧
    symbolDurations (c1 .lowThenHigh) .symBit0 = some (20, 60) ∧
    symbolDurations (c1 .lowThenHigh) .symBit1 = some (60, 20) ∧
    symbolDurations (c1 .lowThenHigh) .symEnd = some (80, 40) ∧
    ∀ p : Phase, p ∈ [Phase.setFirst, .holdFirst, .setSecond, .holdSecond] →
      (sending .lowThenHigh 1 p [.ok]).act = c1 .lowThenHigh ∧
      (sending .lowThenHigh 1 p [.ok]).handle = some 7 ∧
      (sending .lowThenHigh 1 p [.ok]).callAnswer = .ok ∧ (sending .lowThenHigh 1 p [.ok]).phase = p := by decide

theorem witness_stepRuns_ports :
    { acquiring with turns := [.cfg 0] }.turns = [.cfg 0] ∧ decode Config.defaultWidths (.cfgReq 0) = .ok .readConfig ∧
    { acquiring with turns := [.tx 64 0] }.turns = [.tx 64 0] ∧
    decode Config.defaultWidths (.txReq 64 0) = .ok (.send 0 0 []) := by decide +kernel

/-- The release point of that SEND: both repetitions done. -/
def allSent : State := { sending .highThenLow 0 .setFirst [] with rep := 2 }

theorem witness_stepRuns_sequencer :
    (acquiring.turn = .sequencer ∧ acquiring.seqState = .acquiring) ∧
    (allSent.turn = .sequencer ∧ allSent.seqState = .sending ∧
      allSent.rep = allSent.act.repeatCount) ∧
    (sending .highThenLow 1 .setFirst []).turn = .sequencer ∧
    (sending .highThenLow 1 .setFirst []).seqState = .sending ∧
    (sending .highThenLow 1 .setFirst []).rep ≠ (sending .highThenLow 1 .setFirst []).act.repeatCount ∧
    (sending .highThenLow 1 .setFirst []).symbolCode.toOption = some (.frameBit true) ∧
    decode Config.defaultWidths (.frameBit true) = .ok .symBit1 := by decide

/-- Each clause of SlotSelectsTheSymbol: the start marker, the first and the last of four data bits, the end marker,
the forced low. -/
theorem witness_slotSelects :
    ∀ slot, slot ∈ [0, 0 + 1, 3 + 1, 4 + 1, 4 + 2] →
      (sending .highThenLow slot .setFirst []).turn = .sequencer ∧
      (sending .highThenLow slot .setFirst []).seqState = .sending ∧
      (sending .highThenLow slot .setFirst []).rep
        < (sending .highThenLow slot .setFirst []).act.repeatCount ∧
      (sending .highThenLow slot .setFirst []).frmLen
        ≤ 8 * (sending .highThenLow slot .setFirst []).frmCnt ∧
      (sending .highThenLow slot .setFirst []).slot = slot ∧
      (sending .highThenLow slot .setFirst []).frmLen = 4 := by decide

/-- The state Failed after LI_ACQUIRE answered Err. -/
def failed : State :=
  { acquiring with seqState := .failed, txStatus := .lineUnavailable, trace := [.acquireErr] }

theorem witness_failedDelivers : failed.turn = .sequencer ∧ failed.seqState = .failed := by decide

theorem witness_withdrawal :
    { presenting .sending with turns := [.withdraw 0] }.turns = [.withdraw 0] := by decide

theorem witness_resetEvent :
    { State.reset with turns := [.reset] }.turns = [.reset] ∧
    { State.reset with turns := [.reset] }.seqState = .idle ∧
    { acquiring with turns := [.reset] }.turns = [.reset] ∧
    { acquiring with turns := [.reset] }.seqState ≠ .idle := by decide

/-- A SEND in its first data bit has the invariant: of every statement that asks for it. -/
theorem witness_inv : (sending .highThenLow 1 .holdFirst [.ok]).Inv := by
  refine ⟨by decide, by decide, by decide, by decide, by decide, by decide, fun _ => ?_, by decide, ?_, by decide,
    by decide, by decide⟩
  · exact ⟨by decide, by decide, by decide, by decide, by decide⟩
  · exact ⟨by decide, by decide, by decide, by decide, by decide, by decide⟩

/-- It has a step, which stays in Sending: of StepKeepsTheInvariant, StateMachineEdges, SnapshotIsolation,
NoStepFaults, SequencerNeverStops, OnlySetConfigWritesCfg, OneResponsePerSend and TraceGrowsBySequencerOnly. -/
theorem witness_step :
    (sending .highThenLow 1 .holdFirst [.ok]).Inv ∧
    (sending .highThenLow 1 .holdFirst [.ok]).turn = .sequencer ∧
    (sending .highThenLow 1 .holdFirst [.ok]).seqState = .sending ∧
    ofNext (fun t => t.seqState) (step (sending .highThenLow 1 .holdFirst [.ok])) = some .sending :=
  ⟨witness_inv, by decide⟩

theorem witness_hostsLeaveTheSendAlone :
    { sending .highThenLow 1 .holdFirst [.ok] with turns := [.withdraw 0] }.seqState ≠ .idle ∧
    { sending .highThenLow 1 .holdFirst [.ok] with turns := [.withdraw 0] }.turn ≠ .sequencer ∧
    ofNext (fun t => t.slot) (step { sending .highThenLow 1 .holdFirst [.ok] with turns := [.withdraw 0] })
      = some 1 := by decide

/-- That SEND with the acquisition and 50 calls (V1) answered `Ok`, and one answer left over. -/
def wholeSend : State :=
  { acquiring with
    acquireAnswers := [.ok 5], callAnswers := List.replicate 50 CallAnswer.ok ++ [CallAnswer.fault] }

theorem witness_wholeSendTrace :
    wholeSend.turns = [] ∧ wholeSend.seqState = .acquiring ∧ wholeSend.lineCmd = .low ∧
    wholeSend.frmLen ≤ 8 * wholeSend.frmCnt ∧ wholeSend.acquireAnswers = .ok 5 :: [] ∧
    wholeSend.callAnswers =
      List.replicate (wholeSend.cfg.repeatCount * (4 * wholeSend.frmLen + 9)) .ok ++ [.fault] := by
  decide

/-- The same with the reset value of CFG, whose `repeat_count` is 0 (V9). -/
def zeroSend : State := { wholeSend with cfg := Config.cfgResetDefault }

theorem witness_repeatCountZero :
    zeroSend.turns = [] ∧ zeroSend.seqState = .acquiring ∧ zeroSend.cfg.repeatCount = 0 ∧
    zeroSend.acquireAnswer = .ok 5 := by decide

theorem witness_sendReachesItsResult :
    (sending .highThenLow 1 .holdFirst [.ok]).Inv ∧ (sending .highThenLow 1 .holdFirst [.ok]).turns = [] ∧
    (sending .highThenLow 1 .holdFirst [.ok]).seqState = .sending := ⟨witness_inv, by decide⟩

end Sys2Proof.Tests
end

/-! ## Proofs: the parameters, the call trace, and which operation a step runs

What each composite operation leaves of the parameters (R7) and adds to the call trace (R67), and the step by the
turn it takes. -/

namespace Sys2Proof.Machine

/-- The event in the trace of an LI_ACQUIRE answered so (R67). -/
def acquireEvent : AcquireAnswer → Event
  | .ok _ => .acquireOk
  | .err => .acquireErr

/-! ### The parameters and the trace after each composite operation -/

section
variable (s : State)

@[simp] theorem State.fail_params (t : Status) : (s.fail t).params = s.params := rfl
@[simp] theorem State.fail_trace (t : Status) : (s.fail t).trace = s.trace := rfl

@[simp] theorem State.respondSetConfig_params (t : Status) : (s.respondSetConfig t).params = s.params := rfl
@[simp] theorem State.respondSetConfig_trace (t : Status) : (s.respondSetConfig t).trace = s.trace := rfl

@[simp] theorem State.resetEvent_params : s.resetEvent.params = s.params := rfl
@[simp] theorem State.resetEvent_trace : s.resetEvent.trace = s.trace := rfl

@[simp] theorem State.nextRepetition_params : s.nextRepetition.params = s.params := rfl
@[simp] theorem State.nextRepetition_trace : s.nextRepetition.trace = s.trace := rfl

@[simp] theorem State.advance_params : s.advance.params = s.params := by rw [s.advance_eq]
@[simp] theorem State.advance_trace : s.advance.trace = s.trace := by rw [s.advance_eq]

@[simp] theorem State.finishSend_params : s.finishSend.params = s.params := by
  simp [State.finishSend]

@[simp] theorem State.finishSend_trace : s.finishSend.trace = s.trace ++ [.release] := by
  simp [State.finishSend]

@[simp] theorem State.deliverFailure_params : s.deliverFailure.params = s.params := by
  simp [State.deliverFailure]

@[simp] theorem State.deliverFailure_trace : s.deliverFailure.trace = s.trace := by
  simp [State.deliverFailure]

@[simp] theorem State.acceptSend_params (n c : Nat) (bs : List Byte) :
    (s.acceptSend n c bs).params = s.params := by
  unfold State.acceptSend
  split <;> rfl

@[simp] theorem State.acceptSend_trace (n c : Nat) (bs : List Byte) :
    (s.acceptSend n c bs).trace = s.trace := by
  unfold State.acceptSend
  split <;> rfl

@[simp] theorem State.meetBusy_params (r : SendRequest) : (s.meetBusy r).params = s.params := by
  unfold State.meetBusy
  split <;> rfl

@[simp] theorem State.meetBusy_trace (r : SendRequest) : (s.meetBusy r).trace = s.trace := by
  unfold State.meetBusy
  split <;> rfl

@[simp] theorem State.afterAcquire_params : s.afterAcquire.params = s.params := by
  unfold State.afterAcquire
  split <;> rfl

/-- The acquisition step makes one call (R113). -/
theorem State.afterAcquire_trace :
    s.afterAcquire.trace = s.trace ++ [acquireEvent s.acquireAnswer] := by
  unfold State.afterAcquire
  cases s.acquireAnswer <;> rfl

end

section
variable {s : State} {c : LineCall} {onOk : State → State}

/-- A call keeps the parameters, answered `Ok` or `Fault`, if its continuation does. -/
theorem State.afterCall_params (h : ∀ u : State, (onOk u).params = u.params) :
    (s.afterCall c onOk).params = s.params := by
  cases ha : s.callAnswer with
  | ok => rw [State.afterCall_ok ha, h, LineCall.effect_issue]
  | fault =>
    obtain ⟨_, _, _, hd⟩ := s.issue_abort c
    rw [State.afterCall_fault ha, hd]

/-- A call adds its event to the trace and, on `Fault`, the two calls of the abort (R130). -/
theorem State.afterCall_trace (h : ∀ u : State, (onOk u).trace = u.trace) :
    (s.callAnswer = .ok ∧ (s.afterCall c onOk).trace = s.trace ++ [c.event .ok]) ∨
    (s.callAnswer = .fault ∧ ∃ b : CallAnswer,
      (s.afterCall c onOk).trace = s.trace ++ [c.event .fault, .setLevel .low b, .release]) := by
  cases ha : s.callAnswer with
  | ok => exact .inl ⟨rfl, by rw [State.afterCall_ok ha, h, LineCall.effect_issue, ha]⟩
  | fault =>
    obtain ⟨_, b, _, hd⟩ := s.issue_abort c
    exact .inr ⟨rfl, b, by rw [State.afterCall_fault ha, hd, ha]⟩

/-- What follows an `Ok` at a position moves the position only: the parameters stay. -/
theorem Selected.onOk_params (h : Selected s c onOk) (u : State) : (onOk u).params = u.params := by
  cases h with
  | emit => exact u.advance_params
  | forceLow => exact u.nextRepetition_params

/-- What follows an `Ok` at a position makes no call. -/
theorem Selected.onOk_trace (h : Selected s c onOk) (u : State) : (onOk u).trace = u.trace := by
  cases h with
  | emit => exact u.advance_trace
  | forceLow => exact u.nextRepetition_trace

end

/-! ### The parameters and the trace over a move -/

section
variable {s t : State} {a : Turn}

/-- No move writes a parameter (R7). -/
theorem Move.params_eq (m : Move s a t) : t.params = s.params := by
  cases m with
  | call _ _ _ _ _ _ hsel => exact State.afterCall_params hsel.onOk_params
  | _ => simp

/-- A move of any agent but the sequencer makes no call (R67, R111). -/
theorem Move.trace_of_host (m : Move s a t) (ha : a ≠ .sequencer) : t.trace = s.trace := by
  cases m with
  | rest | acquire | release | call | deliver => exact absurd rfl ha
  | _ => simp

/-- A move of the sequencer keeps every event and can add some (R67). -/
theorem Move.trace_of_sequencer (m : Move s .sequencer t) : ∃ es, t.trace = s.trace ++ es := by
  cases m with
  | rest | deliver => exact ⟨[], by simp⟩
  | acquire => exact ⟨_, s.afterAcquire_trace⟩
  | release => exact ⟨_, s.finishSend_trace⟩
  | call _ _ _ _ _ _ hsel =>
    rcases State.afterCall_trace hsel.onOk_trace with ⟨_, h⟩ | ⟨_, _, h⟩
    · exact ⟨_, h⟩
    · exact ⟨_, h⟩

end

/-- Settles O49, from what a move of each agent does to the parameters and to the trace. -/
theorem traceGrowsBySequencerOnly : Obligations.TraceGrowsBySequencerOnly := by
  intro s t h
  have m : Move s.popTurn s.turn t := step_move h
  refine ⟨m.params_eq, ?_, m.trace_of_host⟩
  by_cases ha : s.turn = .sequencer
  · exact (ha ▸ m).trace_of_sequencer
  · exact ⟨[], by rw [List.append_nil]; exact m.trace_of_host ha⟩

/-! ### The operation a step runs -/

section
variable {s : State}

/-- A step is the move of the agent whose turn it is, with the turn used up (log 3). -/
theorem step_of_turn {a : Turn} (h : s.turn = a) : step s = runTurn a s.popTurn := by
  rw [step, h]

theorem step_of_turns {a : Turn} {ts : List Turn} (h : s.turns = a :: ts) :
    step s = runTurn a { s with turns := ts } := by
  rw [step_of_turn (a := a) (by simp [State.turn, h]), State.popTurn, h, List.tail_cons]

theorem sequencerStep_acquiring (hq : s.seqState = .acquiring) : sequencerStep s = exec .liAcquire s := by
  rw [sequencerStep, hq]
  exact runCode_eq_exec rfl

theorem sequencerStep_release (hq : s.seqState = .sending) (hr : s.rep = s.act.repeatCount) :
    sequencerStep s = exec .liRelease s := by
  simp only [sequencerStep, hq, if_pos hr]
  exact runCode_eq_exec rfl

/-- Before the release point the sequencer runs what the code at its position decodes to (R97). -/
theorem sequencerStep_symbol {c : Code} {i : Instr} (hq : s.seqState = .sending)
    (hr : s.rep ≠ s.act.repeatCount) (hc : s.symbolCode = .ok c) (hi : decode s.params.widths c = .ok i) :
    sequencerStep s = exec i s := by
  simp only [sequencerStep, hq, if_neg hr, hc]
  exact runCode_eq_exec hi

end

/-- Settles O34: the turn selects the agent, and each agent's move runs the code it decodes. -/
theorem stepRunsTheDecodedOperation : Obligations.StepRunsTheDecodedOperation := by
  intro s i
  refine ⟨fun word ts ht hi => ?_, fun len val ts ht hi => ?_, fun ht hq => ?_, fun ht hq hr => ?_,
    fun c ht hq hr hc hi => ?_⟩
  · exact (step_of_turns ht).trans (runCode_eq_exec hi)
  · exact (step_of_turns ht).trans (runCode_eq_exec hi)
  · exact (step_of_turn ht).trans (sequencerStep_acquiring hq)
  · exact (step_of_turn ht).trans (sequencerStep_release hq hr)
  · exact (step_of_turn ht).trans (sequencerStep_symbol hq hr hc hi)

/-- Settles O1: the values written at State.reset, and the two conditions of R7 on them. -/
theorem parameterDefaults : Obligations.ParameterDefaults :=
  ⟨rfl, rfl, rfl, rfl, rfl, rfl, rfl, by decide⟩

end Sys2Proof.Machine

/-! ## Proofs: the invariant, at reset and over every move

Outside Sending the invariant says that the line is free; inside it, that the position is in range and that the trace
allows the call the phase is about to make. Each move is proved to end in one of the two. -/

namespace Sys2Proof.Machine

/-! ### The invariant by whether the sequencer is Sending -/

/-- The part of the invariant that does not speak of the sequencer's state. -/
structure State.StoreInv (s : State) : Prop where
  memory : Memory.wf s.frmBytes = true
  params : s.params.admitted = true
  widths : s.WidthInv
  waiting : ∀ r ∈ s.txWaiting, sendFits s.params.widths r.bitLength r.byteCount r.bytes = true

/-- No handle is held, the level commanded is Low, and the call trace has released the line (R22, R23, R117). -/
structure State.LineFree (s : State) : Prop where
  handle : s.handle = none
  lineCmd : s.lineCmd = .low
  use : lineUse s.trace = some .released

/-- A line so used may receive the call of this phase of EMIT (R80, R117). -/
def LineUse.Allows (u : LineUse) (p : Phase) : Prop := u = .levelSet ∨ (u = .held ∧ holdsNext p = false)

section
variable {s : State}

theorem State.Inv.store (h : s.Inv) : s.StoreInv := ⟨h.memory, h.params, h.widths, h.waiting⟩

/-- A latched frame that fits keeps it (R18, R57). -/
theorem State.StoreInv.latch (h : s.StoreInv) {n c : Nat} {bs : List Byte}
    (hf : sendFits s.params.widths n c bs = true) {q : SeqState} {b : Bool} {st : Status} :
    State.StoreInv { s with
      frmLen := n, frmCnt := c, frmBytes := Memory.ofBytes bs, seqState := q, lock := b, txStatus := st } := by
  obtain ⟨⟨hn, hc⟩, _⟩ := sendFits_iff.mp hf
  exact ⟨Memory.ofBytes_wf bs, h.params,
    ⟨h.widths.cfg, h.widths.act, hn, hc, h.widths.rep, h.widths.slot⟩, h.waiting⟩

/-- Dead registers that fit keep it (R17, R18, R31, R130). -/
theorem State.StoreInv.dead (h : s.StoreInv) {d : Config.DeadRegs} (hd : d.fits s.params.widths = true)
    {q : SeqState} {b : Bool} {hn : Option LineHandle} {l : Level} {st : Status} {cs : List CallAnswer} {n : Nat}
    {es : List Event} {rs : List Response} :
    State.StoreInv { s with
      act := d.act, frmLen := d.frmLen, frmCnt := d.frmCnt, frmBytes := Memory.ofBytes d.frmBytes, rep := d.rep,
      slot := d.slot, phase := d.phase, seqState := q, lock := b, handle := hn, lineCmd := l, txStatus := st,
      callAnswers := cs, draws := n, trace := es, responses := rs } := by
  obtain ⟨⟨⟨⟨hact, hlen⟩, hcnt⟩, hrep⟩, hslot⟩ := Config.DeadRegs.fits_iff.mp hd
  exact ⟨Memory.ofBytes_wf _, h.params, ⟨h.widths.cfg, hact, hlen, hcnt, hrep, hslot⟩, h.waiting⟩

theorem State.Inv.lineFree (h : s.Inv) (hq : s.seqState ≠ .sending) : s.LineFree := by
  refine ⟨by simpa [hq] using h.handleWhileSending, h.lowUnlessSending hq, ?_⟩
  have hd := h.discipline
  unfold State.disciplined at hd
  split at hd
  · cases hd
  · next u hu => simpa [hu, hq] using hd

theorem State.Inv.use_of_sending (h : s.Inv) (hq : s.seqState = .sending) :
    ∃ u, lineUse s.trace = some u ∧ u.Allows s.phase := by
  have hd := h.discipline
  unfold State.disciplined at hd
  split at hd
  · cases hd
  · next u hu => exact ⟨u, hu, by simpa [hq, LineUse.Allows] using hd⟩

theorem State.inv_of_lineFree (hs : s.StoreInv) (hl : s.LineFree) (hq : s.seqState ≠ .sending)
    (hlock : s.lock = decide (s.seqState ≠ .idle))
    (hframe : s.seqState = .acquiring → s.frmLen ≤ 8 * s.frmCnt ∧ ∀ c ∈ s.frmBytes, c.1 < s.frmCnt)
    (hstatus : s.seqState = .failed →
      s.txStatus = .invalidBitLength ∨ s.txStatus = .lineUnavailable ∨ s.txStatus = .lineFault) : s.Inv where
  memory := hs.memory
  lockIsBusy := hlock
  handleWhileSending := by simp [hl.handle, hq]
  lowUnlessSending _ := hl.lineCmd
  lengthChecked ha := (hframe (ha.resolve_right hq)).1
  frameInCount ha := (hframe (ha.resolve_right hq)).2
  position h := absurd h hq
  params := hs.params
  widths := hs.widths
  failedStatus := hstatus
  waiting := hs.waiting
  discipline := by simp [State.disciplined, hl.use, hq]

theorem State.inv_of_sending (hs : s.StoreInv) (hq : s.seqState = .sending) (hlock : s.lock = true)
    (hhandle : s.handle.isSome = true) (hlen : s.frmLen ≤ 8 * s.frmCnt)
    (hframe : ∀ c ∈ s.frmBytes, c.1 < s.frmCnt) (hp : s.PositionInv)
    (huse : ∃ u, lineUse s.trace = some u ∧ u.Allows s.phase) : s.Inv where
  memory := hs.memory
  lockIsBusy := by simp [hlock, hq]
  handleWhileSending := by simp [hhandle, hq]
  lowUnlessSending h := absurd hq h
  lengthChecked _ := hlen
  frameInCount _ := hframe
  position _ := hp
  params := hs.params
  widths := hs.widths
  failedStatus h := by simp [hq] at h
  waiting := hs.waiting
  discipline := by
    obtain ⟨u, hu, ha⟩ := huse
    simpa [State.disciplined, hu, hq, LineUse.Allows] using ha

/-! ### Reset and the moves of the hosts -/

/-- The invariant says nothing of the moves to come, the responses and the counter of free values, and of CFG and the
waiting requests only that they fit. -/
theorem State.Inv.hostWrites (h : s.Inv) {c : TimingConfig} {ws : List SendRequest} {ts : List Turn}
    {rs : List Response} {n : Nat} (hc : c.fits s.params.widths = true)
    (hw : ∀ r ∈ ws, sendFits s.params.widths r.bitLength r.byteCount r.bytes = true) :
    State.Inv { s with cfg := c, txWaiting := ws, turns := ts, responses := rs, draws := n } where
  memory := h.memory
  lockIsBusy := h.lockIsBusy
  handleWhileSending := h.handleWhileSending
  lowUnlessSending := h.lowUnlessSending
  lengthChecked := h.lengthChecked
  frameInCount := h.frameInCount
  position hq :=
    have hp := h.position hq
    ⟨hp.repInRange, hp.slotInRange, hp.forcedLowHasOnePhase, hp.releaseAtStart, hp.lowAtStart⟩
  params := h.params
  widths := ⟨hc, h.widths.act, h.widths.frmLen, h.widths.frmCnt, h.widths.rep, h.widths.slot⟩
  failedStatus := h.failedStatus
  waiting := hw
  discipline := h.discipline

theorem State.Inv.popTurn (h : s.Inv) : s.popTurn.Inv := h.hostWrites h.widths.cfg h.waiting

theorem State.Inv.respond (h : s.Inv) (r : Response) : (s.respond r).Inv := h.hostWrites h.widths.cfg h.waiting

theorem State.Inv.dropWaiting (h : s.Inv) (k : Nat) : (s.dropWaiting k).Inv :=
  h.hostWrites h.widths.cfg fun r hr => h.waiting r (List.mem_of_mem_eraseIdx hr)

theorem State.Inv.holdRequest (h : s.Inv) {r : SendRequest}
    (hr : sendFits s.params.widths r.bitLength r.byteCount r.bytes = true) : (s.holdRequest r).Inv :=
  h.hostWrites h.widths.cfg <| by simpa [or_imp, forall_and] using ⟨h.waiting, hr⟩

theorem State.Inv.respondSetConfig (h : s.Inv) (st : Status) : (s.respondSetConfig st).Inv :=
  h.hostWrites h.widths.cfg h.waiting

theorem State.Inv.setCfg (h : s.Inv) {c : TimingConfig} (hc : c.fits s.params.widths = true) : (s.setCfg c).Inv :=
  h.hostWrites hc h.waiting

theorem State.Inv.meetBusy (h : s.Inv) {r : SendRequest}
    (hr : sendFits s.params.widths r.bitLength r.byteCount r.bytes = true) : (s.meetBusy r).Inv := by
  unfold State.meetBusy
  split
  · exact h.holdRequest hr
  · exact h.respond _

/-- What the accepting step writes where the length exceeds the buffer (R90, R91). -/
theorem State.acceptSend_tooLong (s : State) {n c : Nat} (bs : List Byte) (hlen : 8 * c < n) :
    s.acceptSend n c bs =
      { s with
        frmLen := n, frmCnt := c, frmBytes := Memory.ofBytes bs, lock := true, txStatus := .invalidBitLength,
        seqState := .failed } := by
  rw [State.acceptSend, lengthExceeds, decide_eq_true hlen]
  rfl

/-- What the accepting step writes where the length is within the buffer (R90, R91). -/
theorem State.acceptSend_inBuffer (s : State) {n c : Nat} (bs : List Byte) (hlen : n ≤ 8 * c) :
    s.acceptSend n c bs =
      { s with
        frmLen := n, frmCnt := c, frmBytes := Memory.ofBytes bs, lock := true, seqState := .acquiring } := by
  rw [State.acceptSend, lengthExceeds, decide_eq_false (Nat.not_lt.mpr hlen)]
  rfl

/-- The accepting step latches a frame that fits, and goes on to acquire only where its length passes (R90, R91). -/
theorem State.Inv.acceptSend (h : s.Inv) (hq : s.seqState = .idle) {n c : Nat} {bs : List Byte}
    (hf : sendFits s.params.widths n c bs = true) : (s.acceptSend n c bs).Inv := by
  obtain ⟨hhandle, hlow, huse⟩ := h.lineFree (by simp [hq])
  have hcount := (sendFits_iff.mp hf).2
  rcases Nat.lt_or_ge (8 * c) n with hlen | hlen
  · rw [s.acceptSend_tooLong bs hlen]
    exact State.inv_of_lineFree (h.store.latch hf) ⟨hhandle, hlow, huse⟩ nofun rfl nofun (fun _ => .inl rfl)
  · rw [s.acceptSend_inBuffer bs hlen]
    exact State.inv_of_lineFree (h.store.latch hf) ⟨hhandle, hlow, huse⟩ nofun rfl
      (fun _ => ⟨hlen, fun _ hd => hcount ▸ Memory.ofBytes_mem_lt hd⟩) nofun

/-- The reset event writes every register of the block and keeps what requesters hold and the trace (R143). -/
theorem State.resetEvent_inv (hp : s.params.admitted = true)
    (hw : ∀ r ∈ s.txWaiting, sendFits s.params.widths r.bitLength r.byteCount r.bytes = true)
    (huse : lineUse s.trace = some .released) : s.resetEvent.Inv := by
  have hcfg : s.params.cfgReset.fits s.params.widths = true := by
    simp only [Config.Params.admitted, Bool.and_eq_true] at hp
    exact hp.2
  have hwidths : s.resetEvent.WidthInv :=
    ⟨hcfg, Config.cfgResetDefault_fits _, Nat.two_pow_pos _, Nat.two_pow_pos _, Nat.two_pow_pos _,
      Nat.two_pow_pos _⟩
  exact State.inv_of_lineFree ⟨rfl, hp, hwidths, hw⟩ ⟨rfl, rfl, huse⟩ nofun rfl nofun nofun

theorem State.resetWith_inv {p : Config.Params} (hp : p.admitted = true) : (State.resetWith p).Inv :=
  State.resetEvent_inv (s := State.resetWith p) hp nofun rfl

/-! ### The moves of the sequencer that need no position -/

theorem State.Inv.deliverFailure (h : s.Inv) (hq : s.seqState = .failed) : s.deliverFailure.Inv := by
  obtain ⟨hhandle, hlow, huse⟩ := h.lineFree (by simp [hq])
  obtain ⟨d, hd, heq⟩ := s.deliverFailure_eq
  rw [heq]
  exact State.inv_of_lineFree (h.store.dead hd) ⟨hhandle, hlow, huse⟩ nofun rfl nofun nofun

/-- What the acquisition step writes where the line is acquired (R92, R93). -/
theorem State.afterAcquire_ok {hd : LineHandle} (ha : s.acquireAnswer = .ok hd) :
    s.afterAcquire =
      { s with
        handle := some hd, act := s.cfg, rep := 0, slot := 0, phase := .setFirst, seqState := .sending,
        acquireAnswers := s.acquireAnswers.tail, draws := s.draws + 1, trace := s.trace ++ [.acquireOk] } := by
  simp only [State.afterAcquire, ha, State.beginSending, State.setHandle, State.snapshot, State.setSeq,
    State.setSeqState, State.log, State.tookAcquireAnswer]

/-- What it writes where the line is not acquired (R92, R128). -/
theorem State.afterAcquire_err (ha : s.acquireAnswer = .err) :
    s.afterAcquire =
      { s with
        txStatus := .lineUnavailable, seqState := .failed, acquireAnswers := s.acquireAnswers.tail,
        draws := s.draws + 1, trace := s.trace ++ [.acquireErr] } := by
  simp only [State.afterAcquire, ha, State.fail, State.setTxStatus, State.setSeqState, State.log,
    State.tookAcquireAnswer]

/-- The acquisition step takes the handle and the position (0, 0, 0), or fails with the line still free (R92, R93). -/
theorem State.Inv.afterAcquire (h : s.Inv) (hq : s.seqState = .acquiring) : s.afterAcquire.Inv := by
  obtain ⟨hhandle, hlow, huse⟩ := h.lineFree (by simp [hq])
  have hlock : s.lock = true := by simp [h.lockIsBusy, hq]
  cases ha : s.acquireAnswer with
  | ok hd =>
    have hheld : lineUse (s.trace ++ [.acquireOk]) = some .held := by rw [lineUse_concat, huse]; rfl
    rw [State.afterAcquire_ok ha]
    refine State.inv_of_sending ⟨h.memory, h.params, ?widths, h.waiting⟩ rfl hlock rfl
      (h.lengthChecked (.inl hq)) (h.frameInCount (.inl hq)) ?position ⟨.held, hheld, .inr ⟨rfl, rfl⟩⟩
    case widths =>
      exact ⟨h.widths.cfg, h.widths.cfg, h.widths.frmLen, h.widths.frmCnt, Nat.two_pow_pos _, Nat.two_pow_pos _⟩
    case position => exact ⟨Nat.zero_le _, Nat.zero_le _, fun _ => rfl, fun _ => ⟨rfl, rfl⟩, fun _ _ => hlow⟩
  | err =>
    have hfree : lineUse (s.trace ++ [.acquireErr]) = some .released := by rw [lineUse_concat, huse]; rfl
    have hwidths := h.widths
    rw [State.afterAcquire_err ha]
    exact State.inv_of_lineFree ⟨h.memory, h.params, { hwidths with }, h.waiting⟩ ⟨hhandle, hlow, hfree⟩
      nofun hlock nofun (fun _ => .inr (.inl rfl))

/-- At the release point the level is Low, and the release may follow (R23, R97, R98). -/
theorem State.Inv.finishSend (h : s.Inv) (hq : s.seqState = .sending) (hr : s.rep = s.act.repeatCount) :
    s.finishSend.Inv := by
  obtain ⟨hslot, hphase⟩ := (h.position hq).releaseAtStart hr
  have hlow : s.lineCmd = .low := (h.position hq).lowAtStart hslot hphase
  obtain ⟨u, hu, ha⟩ := h.use_of_sending hq
  have hfree : lineUse (s.trace ++ [.release]) = some .released := by
    rw [lineUse_concat, hu]
    rcases ha with rfl | ⟨rfl, _⟩ <;> rfl
  obtain ⟨d, hd, heq⟩ := s.finishSend_eq
  rw [heq]
  exact State.inv_of_lineFree (h.store.dead hd) ⟨rfl, hlow, hfree⟩ nofun rfl nofun nofun

end

/-! ### The call of a position -/

section
variable {s : State} {c : LineCall} {onOk : State → State} {u : LineUse}

/-- EMIT makes an LI_DELAY in the phases that hold a level and an LI_SET_LEVEL in the others (R80). -/
theorem emitCall_cases (h l : Nat) (f : BitFormat) (p : Phase) :
    (∃ v, emitCall h l f p = .setLevel v) ∨ (holdsNext p = true ∧ ∃ n, emitCall h l f p = .delay n) := by
  cases f <;> cases p <;> simp [emitCall, holdsNext]

theorem holdsNext_advance (h : holdsNext s.phase = true) : holdsNext s.advance.phase = false := by
  rw [s.advance_eq]
  revert h
  cases s.phase <;> simp [holdsNext]

/-- The call of a position sets a level, or is a delay where a level was just set and none is due next (R80, R85). -/
theorem Selected.call_cases (h : Selected s c onOk) :
    (∃ v, c = .setLevel v) ∨
    ((∃ n, c = .delay n) ∧ holdsNext s.phase = true ∧
      ∀ v : State, v.phase = s.phase → holdsNext (onOk v).phase = false) := by
  cases h with
  | emit d e _ =>
    rcases emitCall_cases d e s.act.format s.phase with hv | ⟨hp, hn⟩
    · exact .inl hv
    · exact .inr ⟨hn, hp, fun v hv => holdsNext_advance (hv ▸ hp)⟩
  | forceLow => exact .inl ⟨_, rfl⟩

theorem LineUse.Allows.eq_levelSet {p : Phase} (ha : u.Allows p) (hp : holdsNext p = true) : u = .levelSet :=
  ha.resolve_right fun h => by simp [hp] at h

theorem LineUse.Allows.after_setLevel {p : Phase} (ha : u.Allows p) (v : Level) (a : CallAnswer) :
    u.after (.setLevel v a) = some (LineUse.levelSet.answered a) := by
  rcases ha with rfl | ⟨rfl, _⟩ <;> rfl

/-- Answered `Ok`, the call of a position leaves a use that allows the call of the next position (R117). -/
theorem Selected.use_after_ok (h : Selected s c onOk) (ha : u.Allows s.phase) :
    ∃ u', u.after (c.event .ok) = some u' ∧ u'.Allows (onOk (c.effect (s.issue c))).phase := by
  rcases h.call_cases with ⟨l, rfl⟩ | ⟨⟨n, rfl⟩, hp, hnext⟩
  · exact ⟨.levelSet, ha.after_setLevel l .ok, .inl rfl⟩
  · exact ⟨.held, by rw [ha.eq_levelSet hp]; rfl, .inr ⟨rfl, hnext _ rfl⟩⟩

/-- Answered `Fault`, the call of a position leaves the forced low due (R117, R130). -/
theorem Selected.use_after_fault (h : Selected s c onOk) (ha : u.Allows s.phase) :
    u.after (c.event .fault) = some .faulted := by
  rcases h.call_cases with ⟨l, rfl⟩ | ⟨⟨n, rfl⟩, hp, _⟩
  · exact ha.after_setLevel l .fault
  · rw [ha.eq_levelSet hp]; rfl

/-- Answered `Ok`, the call of a position leads to a position R97 reaches. -/
theorem Selected.position_after_ok (h : Selected s c onOk) (hp : s.PositionInv) (hr : s.rep ≠ s.act.repeatCount) :
    (onOk (c.effect (s.issue c))).PositionInv := by
  obtain ⟨hrep, _, _, _, _⟩ := hp
  cases h with
  | emit d e hs =>
    rw [LineCall.effect_issue, State.advance_eq]
    refine ⟨hrep, ?_, ?_, fun hr' => absurd hr' hr, ?_⟩
    · cases s.phase <;> simp <;> omega
    · cases s.phase <;> simp <;> omega
    · cases s.phase <;> simp
  | forceLow =>
    exact ⟨Nat.lt_of_le_of_ne hrep hr, Nat.zero_le _, fun _ => rfl, fun _ => ⟨rfl, rfl⟩, fun _ _ => rfl⟩

/-- All that a call answered `Ok` and what follows it write: the position, LINE_CMD, the trace and the answers to
come (R80, R85, R97). -/
theorem Selected.callOk_eq (h : Selected s c onOk) :
    ∃ r k p l, onOk (c.effect (s.issue c)) = { s with
      rep := r, slot := k, phase := p, lineCmd := l, callAnswers := s.callAnswers.tail, draws := s.draws + 1,
      trace := s.trace ++ [c.event s.callAnswer] } := by
  rw [LineCall.effect_issue]
  cases h with
  | emit => exact ⟨_, _, _, _, State.advance_eq _⟩
  | forceLow => exact ⟨_, _, _, _, rfl⟩

/-- A position R97 reaches fits the widths of R21, where the snapshot and the frame's length fit theirs. -/
theorem State.PositionInv.widthInv (hp : s.PositionInv) (hcfg : s.cfg.fits s.params.widths = true)
    (hact : s.act.fits s.params.widths = true) (hlen : s.frmLen < 2 ^ s.params.widths.len)
    (hcnt : s.frmCnt < 2 ^ s.params.widths.cnt) : s.WidthInv := by
  have hrep := hp.repInRange
  have hslot := hp.slotInRange
  have hcount := (TimingConfig.fits_iff.mp hact).2
  exact ⟨hcfg, hact, hlen, hcnt, by rw [Nat.pow_succ]; omega, by rw [Nat.pow_add]; omega⟩

/-- The forced low and the release of the abort end the use of the line (R117, R130). -/
theorem State.Inv.abort (h : s.Inv) (hq : s.seqState = .sending) (hsel : Selected s c onOk)
    (ha : s.callAnswer = .fault) : (s.issue c).abort.Inv := by
  obtain ⟨u, hu, hal⟩ := h.use_of_sending hq
  have hlock : s.lock = true := by simp [h.lockIsBusy, hq]
  obtain ⟨d, b, hd, heq⟩ := s.issue_abort c
  have hfree : lineUse (s.trace ++ [c.event s.callAnswer, .setLevel .low b, .release]) = some .released := by
    rw [List.append_cons, List.append_cons, lineUse_concat, lineUse_concat, lineUse_concat, hu, ha,
      Option.bind_some, hsel.use_after_fault hal]
    rfl
  rw [heq]
  exact State.inv_of_lineFree (h.store.dead hd) ⟨rfl, rfl, hfree⟩ nofun hlock nofun (fun _ => .inr (.inr rfl))

theorem State.Inv.callOk (h : s.Inv) (hq : s.seqState = .sending) (hr : s.rep ≠ s.act.repeatCount)
    (hsel : Selected s c onOk) (ha : s.callAnswer = .ok) : (onOk (c.effect (s.issue c))).Inv := by
  obtain ⟨u, hu, hal⟩ := h.use_of_sending hq
  obtain ⟨u', hu', hal'⟩ := hsel.use_after_ok hal
  have hp := hsel.position_after_ok (h.position hq) hr
  have hlock : s.lock = true := by simp [h.lockIsBusy, hq]
  have hhandle : s.handle.isSome = true := by simp [h.handleWhileSending, hq]
  have huse : lineUse (s.trace ++ [c.event s.callAnswer]) = some u' := by
    rw [lineUse_concat, hu, ha, Option.bind_some, hu']
  obtain ⟨r, k, p, l, heq⟩ := hsel.callOk_eq
  rw [heq] at hp hal' ⊢
  have hw := hp.widthInv h.widths.cfg h.widths.act h.widths.frmLen h.widths.frmCnt
  exact State.inv_of_sending ⟨h.memory, h.params, hw, h.waiting⟩ hq hlock hhandle
    (h.lengthChecked (.inr hq)) (h.frameInCount (.inr hq)) hp ⟨u', huse, hal'⟩

end

/-! ### Every move -/

section
variable {s t : State} {a : Turn}

theorem State.Inv.afterCall (h : s.Inv) {c : LineCall} {onOk : State → State} (hq : s.seqState = .sending)
    (hr : s.rep ≠ s.act.repeatCount) (hsel : Selected s c onOk) : (s.afterCall c onOk).Inv := by
  cases ha : s.callAnswer with
  | ok => rw [State.afterCall_ok ha]; exact h.callOk hq hr hsel ha
  | fault => rw [State.afterCall_fault ha]; exact h.abort hq hsel ha

/-- A request decoded from a CFGREQ fits (R54). -/
theorem candidate_fits {w : Config.Widths} {word : Nat} {c : RawConfig}
    (h : decode w (.cfgReq word) = .ok (.setConfig c)) : c.fits w = true := by
  obtain ⟨_, ⟨_, hc⟩ | ⟨_, hc⟩⟩ := decodeCfgReq_ok h
  · cases hc; exact RawConfig.unpack_fits w word
  · cases hc

/-- A request decoded from a TXREQ fits (R57). -/
theorem request_fits {w : Config.Widths} {len val n c : Nat} {bs : List Byte}
    (h : decode w (.txReq len val) = .ok (.send n c bs)) : sendFits w n c bs = true := by
  obtain ⟨_, _, _, hi, hfits⟩ := decodeTxReq_ok h
  cases hi
  exact hfits

theorem Move.keeps_inv (m : Move s a t) (h : s.Inv) : t.Inv := by
  cases m with
  | readConfig => exact h.respond _
  | rejectConfig => exact h.respondSetConfig _
  | setConfig _ _ _ hdec hval =>
    exact (h.setCfg (RawConfig.validate_fits (candidate_fits hdec) hval)).respondSetConfig _
  | accept _ _ _ hdec hq => exact h.acceptSend hq (request_fits hdec)
  | meetBusy _ _ _ hdec => exact h.meetBusy (request_fits hdec)
  | present k r hr hq => exact (h.dropWaiting k).acceptSend hq (h.waiting r (List.mem_of_getElem? hr))
  | notPresented => exact h
  | withdraw k => exact h.dropWaiting k
  | reset hq => exact State.resetEvent_inv h.params h.waiting (h.lineFree (by simp [hq])).use
  | rest => exact h
  | acquire hq => exact h.afterAcquire hq
  | release _ hq hr => exact h.finishSend hq hr
  | call _ _ _ hq hr _ hsel => exact h.afterCall hq hr hsel
  | deliver hq => exact h.deliverFailure hq

end

/-- Settles O41: every move of every agent keeps the invariant. -/
theorem stepKeepsTheInvariant : Obligations.StepKeepsTheInvariant :=
  fun _ _ h hstep => (step_move hstep).keeps_inv h.popTurn

/-- Settles O40, from the registers the reset event writes. -/
theorem resetHasTheInvariant : Obligations.ResetHasTheInvariant :=
  ⟨State.resetWith_inv (by decide), fun _ hp => State.resetWith_inv hp⟩

end Sys2Proof.Machine

/-! ## Proofs: what writes CFG -/

namespace Sys2Proof.Machine

section
variable (s : State)

@[simp] theorem State.respondSetConfig_cfg (t : Status) : (s.respondSetConfig t).cfg = s.cfg := rfl

@[simp] theorem State.meetBusy_cfg (r : SendRequest) : (s.meetBusy r).cfg = s.cfg := by
  unfold State.meetBusy
  split <;> rfl

@[simp] theorem State.acceptSend_cfg (n c : Nat) (bs : List Byte) : (s.acceptSend n c bs).cfg = s.cfg := by
  unfold State.acceptSend
  split <;> rfl

@[simp] theorem State.afterAcquire_cfg : s.afterAcquire.cfg = s.cfg := by
  unfold State.afterAcquire
  split <;> rfl

@[simp] theorem State.finishSend_cfg : s.finishSend.cfg = s.cfg := by
  simp [State.finishSend]

@[simp] theorem State.deliverFailure_cfg : s.deliverFailure.cfg = s.cfg := by
  simp [State.deliverFailure]

end

/-- The call of a position leaves CFG alone, however it is answered (R42). -/
theorem Selected.afterCall_cfg {s : State} {c : LineCall} {onOk : State → State} (h : Selected s c onOk) :
    (s.afterCall c onOk).cfg = s.cfg := by
  cases ha : s.callAnswer with
  | ok =>
    obtain ⟨_, _, _, _, heq⟩ := h.callOk_eq
    rw [State.afterCall_ok ha, heq]
  | fault =>
    obtain ⟨_, _, _, heq⟩ := s.issue_abort c
    rw [State.afterCall_fault ha, heq]

/-- The two moves that write CFG, and every other (R13, R73, R143). -/
theorem Move.cfg_cases {s t : State} {a : Turn} (m : Move s a t) :
    t.cfg = s.cfg ∨
    (∃ w c v, a = .cfg w ∧ decode s.params.widths (.cfgReq w) = .ok (.setConfig c) ∧ c.validate = some v ∧
      t.cfg = v) ∨
    (a = .reset ∧ t.cfg = s.params.cfgReset) := by
  cases m with
  | setConfig w c v hdec hval => exact .inr (.inl ⟨w, c, v, rfl, hdec, hval, rfl⟩)
  | reset => exact .inr (.inr ⟨rfl, rfl⟩)
  | call _ _ _ _ _ _ hsel => exact .inl hsel.afterCall_cfg
  | _ => exact .inl (by simp)

/-- Settles O45, by the moves: a valid SET_CONFIG and the reset event write CFG. -/
theorem onlySetConfigWritesCfg : Obligations.OnlySetConfigWritesCfg :=
  fun _ _ hstep => (step_move hstep).cfg_cases

/-- Settles O38: after reset no turn is listed, and the sequencer in Idle has no step to make. -/
theorem resetValues : Obligations.ResetValues :=
  ⟨fun _ => rfl, fun _ => ⟨rfl, rfl, rfl, rfl, rfl⟩, rfl⟩

end Sys2Proof.Machine

/-! ## Proofs: no step reads the observation

An earlier history is carried outwards through each operation of the model, to the operation's result. -/

namespace Sys2Proof.Machine

section
variable (s : State) (es : List Event) (rs : List Response)

/-! ### What an operation reads is the same after an earlier history -/

@[simp] theorem State.precededBy_cfg : (s.precededBy es rs).cfg = s.cfg := rfl
@[simp] theorem State.precededBy_act : (s.precededBy es rs).act = s.act := rfl
@[simp] theorem State.precededBy_seqState : (s.precededBy es rs).seqState = s.seqState := rfl
@[simp] theorem State.precededBy_rep : (s.precededBy es rs).rep = s.rep := rfl
@[simp] theorem State.precededBy_handle : (s.precededBy es rs).handle = s.handle := rfl
@[simp] theorem State.precededBy_txStatus : (s.precededBy es rs).txStatus = s.txStatus := rfl
@[simp] theorem State.precededBy_txWaiting : (s.precededBy es rs).txWaiting = s.txWaiting := rfl
@[simp] theorem State.precededBy_params : (s.precededBy es rs).params = s.params := rfl
@[simp] theorem State.precededBy_draws : (s.precededBy es rs).draws = s.draws := rfl
@[simp] theorem State.precededBy_deadRegs : (s.precededBy es rs).deadRegs = s.deadRegs := rfl
@[simp] theorem State.precededBy_symbolCode : (s.precededBy es rs).symbolCode = s.symbolCode := rfl
@[simp] theorem State.precededBy_callAnswer : (s.precededBy es rs).callAnswer = s.callAnswer := rfl
@[simp] theorem State.precededBy_acquireAnswer : (s.precededBy es rs).acquireAnswer = s.acquireAnswer := rfl

/-! ### Operations that observe nothing carry the history along -/

@[simp] theorem State.precededBy_setLock (b : Bool) :
    (s.precededBy es rs).setLock b = (s.setLock b).precededBy es rs := rfl
@[simp] theorem State.precededBy_setLineCmd (l : Level) :
    (s.precededBy es rs).setLineCmd l = (s.setLineCmd l).precededBy es rs := rfl
@[simp] theorem State.precededBy_setTxStatus (t : Status) :
    (s.precededBy es rs).setTxStatus t = (s.setTxStatus t).precededBy es rs := rfl
@[simp] theorem State.precededBy_setSeqState (q : SeqState) :
    (s.precededBy es rs).setSeqState q = (s.setSeqState q).precededBy es rs := rfl
@[simp] theorem State.precededBy_setHandle (h : Option LineHandle) :
    (s.precededBy es rs).setHandle h = (s.setHandle h).precededBy es rs := rfl
@[simp] theorem State.precededBy_setCfg (c : TimingConfig) :
    (s.precededBy es rs).setCfg c = (s.setCfg c).precededBy es rs := rfl
@[simp] theorem State.precededBy_holdRequest (r : SendRequest) :
    (s.precededBy es rs).holdRequest r = (s.holdRequest r).precededBy es rs := rfl
@[simp] theorem State.precededBy_dropWaiting (k : Nat) :
    (s.precededBy es rs).dropWaiting k = (s.dropWaiting k).precededBy es rs := rfl
@[simp] theorem State.precededBy_beginSending (h : LineHandle) :
    (s.precededBy es rs).beginSending h = (s.beginSending h).precededBy es rs := rfl
@[simp] theorem State.precededBy_fail (t : Status) :
    (s.precededBy es rs).fail t = (s.fail t).precededBy es rs := rfl
@[simp] theorem State.precededBy_discard : (s.precededBy es rs).discard = s.discard.precededBy es rs := rfl
@[simp] theorem State.precededBy_drew : (s.precededBy es rs).drew = s.drew.precededBy es rs := rfl
@[simp] theorem State.precededBy_tookCallAnswer :
    (s.precededBy es rs).tookCallAnswer = s.tookCallAnswer.precededBy es rs := rfl
@[simp] theorem State.precededBy_tookAcquireAnswer :
    (s.precededBy es rs).tookAcquireAnswer = s.tookAcquireAnswer.precededBy es rs := rfl
@[simp] theorem State.precededBy_resetEvent :
    (s.precededBy es rs).resetEvent = s.resetEvent.precededBy es rs := rfl
@[simp] theorem State.precededBy_nextRepetition :
    (s.precededBy es rs).nextRepetition = s.nextRepetition.precededBy es rs := rfl

@[simp] theorem State.precededBy_advance : (s.precededBy es rs).advance = s.advance.precededBy es rs := by
  simp only [State.advance_eq, State.precededBy]

@[simp] theorem LineCall.effect_precededBy (c : LineCall) :
    c.effect (s.precededBy es rs) = (c.effect s).precededBy es rs := by
  cases c <;> rfl

/-! ### What an operation observes goes after the earlier history -/

@[simp] theorem State.precededBy_log (e : Event) : (s.precededBy es rs).log e = (s.log e).precededBy es rs := by
  simp only [State.log, State.precededBy, List.append_assoc]

@[simp] theorem State.precededBy_respond (r : Response) :
    (s.precededBy es rs).respond r = (s.respond r).precededBy es rs := by
  simp only [State.respond, State.precededBy, List.append_assoc]

@[simp] theorem State.precededBy_issue (c : LineCall) :
    (s.precededBy es rs).issue c = (s.issue c).precededBy es rs := by
  simp [State.issue]

@[simp] theorem State.precededBy_abort : (s.precededBy es rs).abort = s.abort.precededBy es rs := by
  simp [State.abort]

@[simp] theorem State.precededBy_finishSend :
    (s.precededBy es rs).finishSend = s.finishSend.precededBy es rs := by
  simp [State.finishSend]

@[simp] theorem State.precededBy_deliverFailure :
    (s.precededBy es rs).deliverFailure = s.deliverFailure.precededBy es rs := by
  simp [State.deliverFailure]

@[simp] theorem State.precededBy_respondSetConfig (t : Status) :
    (s.precededBy es rs).respondSetConfig t = (s.respondSetConfig t).precededBy es rs := by
  simp [State.respondSetConfig]

@[simp] theorem State.precededBy_acceptSend (n c : Nat) (bs : List Byte) :
    (s.precededBy es rs).acceptSend n c bs = (s.acceptSend n c bs).precededBy es rs := by
  unfold State.acceptSend
  split <;> rfl

@[simp] theorem State.precededBy_meetBusy (r : SendRequest) :
    (s.precededBy es rs).meetBusy r = (s.meetBusy r).precededBy es rs := by
  simp only [State.meetBusy, State.precededBy_params]
  split <;> simp

@[simp] theorem State.precededBy_afterAcquire :
    (s.precededBy es rs).afterAcquire = s.afterAcquire.precededBy es rs := by
  simp only [State.afterAcquire, State.precededBy_acquireAnswer]
  split <;> simp

/-! ### The operations and the moves -/

@[simp] theorem mapNext_next (f : State → State) : mapNext f (.next s) = .next (f s) := rfl
@[simp] theorem mapNext_fault (f : State → State) (e : Fault) : mapNext f (.fault e) = .fault e := rfl
@[simp] theorem mapNext_refused (f : State → State) (r : Refusal) : mapNext f (.refused r) = .refused r := rfl

/-- A call carries the history along where what follows its `Ok` does. -/
theorem performCall_precededBy (c : LineCall) {onOk : State → State}
    (h : ∀ v : State, onOk (v.precededBy es rs) = (onOk v).precededBy es rs) :
    performCall c onOk (s.precededBy es rs) = mapNext (fun t => t.precededBy es rs) (performCall c onOk s) := by
  simp only [performCall, State.precededBy_handle]
  split
  · rfl
  · simp only [State.afterCall, State.precededBy_callAnswer, mapNext_next]
    split <;> simp [h]

theorem emitStep_precededBy (h l : Nat) :
    emitStep h l (s.precededBy es rs) = mapNext (fun t => t.precededBy es rs) (emitStep h l s) :=
  performCall_precededBy s es rs _ fun v => v.precededBy_advance es rs

theorem execSend_precededBy (n c : Nat) (bs : List Byte) :
    execSend n c bs (s.precededBy es rs) = mapNext (fun t => t.precededBy es rs) (execSend n c bs s) := by
  by_cases hc : s.params.maxBytes < c
  · simp [execSend, hc]
  · by_cases hq : s.seqState = .idle <;> simp [execSend, hc, hq]

/-- No operation reads the observation (R29). -/
theorem exec_precededBy (i : Instr) :
    exec i (s.precededBy es rs) = mapNext (fun t => t.precededBy es rs) (exec i s) := by
  cases i with
  | readConfig => simp [exec, execReadConfig]
  | setConfig c =>
    simp only [exec, execSetConfig]
    split <;> simp
  | send n c bs => exact execSend_precededBy s es rs n c bs
  | symStart | symBit0 | symBit1 | symEnd => exact emitStep_precededBy s es rs _ _
  | forceLow => exact performCall_precededBy s es rs _ fun v => v.precededBy_nextRepetition es rs
  | liAcquire => by_cases hq : s.seqState = .acquiring <;> simp [exec, execLiAcquire, hq]
  | liSetLevel _ | liDelay _ => exact performCall_precededBy s es rs _ fun _ => rfl
  | liRelease =>
    simp only [exec, execLiRelease, State.precededBy_handle]
    split <;> simp

theorem runCode_precededBy (c : Code) :
    runCode c (s.precededBy es rs) = mapNext (fun t => t.precededBy es rs) (runCode c s) := by
  simp only [runCode, State.precededBy_params]
  split
  · exact exec_precededBy s es rs _
  · rfl

theorem sequencerStep_precededBy :
    sequencerStep (s.precededBy es rs) = mapNext (fun t => t.precededBy es rs) (sequencerStep s) := by
  cases hq : s.seqState with
  | idle => simp [sequencerStep, hq]
  | acquiring => simp [sequencerStep, hq, runCode_precededBy]
  | sending =>
    by_cases hr : s.rep = s.act.repeatCount
    · simp [sequencerStep, hq, hr, runCode_precededBy]
    · cases hc : s.symbolCode <;> simp [sequencerStep, hq, hr, hc, runCode_precededBy]
  | failed => simp [sequencerStep, hq]

theorem presentWaiting_precededBy (k : Nat) :
    presentWaiting k (s.precededBy es rs) = mapNext (fun t => t.precededBy es rs) (presentWaiting k s) := by
  cases hr : s.txWaiting[k]? with
  | none => simp [presentWaiting, hr]
  | some r => by_cases hq : s.seqState = .idle <;> simp [presentWaiting, hr, hq, exec_precededBy]

/-- No move reads the observation (R29). -/
theorem runTurn_precededBy (a : Turn) :
    runTurn a (s.precededBy es rs) = mapNext (fun t => t.precededBy es rs) (runTurn a s) := by
  cases a with
  | cfg | tx => exact runCode_precededBy s es rs _
  | waiting k => exact presentWaiting_precededBy s es rs k
  | withdraw => rfl
  | reset => by_cases hq : s.seqState = .idle <;> simp [runTurn, resetTurn, hq]
  | sequencer => exact sequencerStep_precededBy s es rs

end

/-- Settles O50, from every move's carrying an earlier history along to its result. -/
theorem observationIsNotRead : Obligations.ObservationIsNotRead :=
  fun s es rs => runTurn_precededBy s.popTurn es rs s.turn

end Sys2Proof.Machine

/-! ## Proofs: the frame buffer (20_memory.md)

What an accepted SEND latches and how it is read back; that the fetch of a frame bit is always defined; that no agent
writes the snapshot or the frame of a SEND in Sending; and that such a SEND ends whatever the Line Interface answers. -/

namespace Sys2Proof.Machine

/-! ### What an accepted SEND latches -/

section
variable {s t : State} {n c : Nat} {bs : List Byte}

/-- A SEND answered in Idle has latched its request, whether or not its length passes (R18, R90). -/
theorem exec_send_latches (hq : s.seqState = .idle) (h : exec (.send n c bs) s = .next t) :
    t.frmLen = n ∧ t.frmCnt = c ∧ t.frmBytes = Memory.ofBytes bs := by
  rcases execSend_next (r := ⟨n, c, bs⟩) h with ⟨_, rfl⟩ | ⟨hbusy, _⟩
  · rcases Nat.lt_or_ge (8 * c) n with hlen | hlen
    · rw [s.acceptSend_tooLong bs hlen]
      exact ⟨rfl, rfl, rfl⟩
    · rw [s.acceptSend_inBuffer bs hlen]
      exact ⟨rfl, rfl, rfl⟩
  · exact absurd hq hbusy

/-- The bits an accepted SEND sends are the first `n` of its buffer, zeros standing in beyond its bytes (R36, R38). -/
theorem exec_send_frameBits (hq : s.seqState = .idle) (h : exec (.send n c bs) s = .next t) :
    t.frameBits = (List.range n).map (fun i => (bs.getD (i / 8) 0).getLsbD (7 - i % 8)) := by
  obtain ⟨hlen, _, hbytes⟩ := exec_send_latches hq h
  simp only [State.frameBits, hlen, hbytes, Memory.read_ofBytes]
  rfl

/-- The reads `State.memRead_ok` leaves out fault (R35; log 13). -/
theorem State.memRead_fault {idx : Nat} (h : s.frmCnt ≤ idx) : s.memRead idx = .error .frameReadPastCount :=
  if_neg (Nat.not_lt.mpr h)

end

/-- Settles O21: the two branches of the read. -/
theorem readOutsideFrameFaults : Obligations.ReadOutsideFrameFaults :=
  fun _ _ => ⟨State.memRead_fault, State.memRead_ok⟩

/-- Settles O19, from the latched bytes read back: the buffer of a well-formed SEND has `byte_count` bytes. -/
theorem frameBitOrder : Obligations.FrameBitOrder := by
  intro len cnt bytes s t i hq hwf h hi
  obtain ⟨_, hcnt, hbytes⟩ := exec_send_latches hq h
  have hcount : bytes.length = cnt := (sendFits_iff.mp hwf).2
  have hidx : i / 8 < bytes.length := by omega
  have hread : Memory.read t.frmBytes (i / 8) = bytes[i / 8] := by
    rw [hbytes, Memory.read_ofBytes, List.getD_eq_getElem _ _ hidx]
  refine ⟨bytes[i / 8], List.getElem?_eq_getElem hidx, ?_, ?_⟩
  · rw [State.memRead_ok (by omega), hread]
  · rw [State.frameBit_ok (by omega), hread]

/-- Settles O20: the bits sent are a function of the first `bit_length` bits of the buffer. -/
theorem unusedBitsHaveNoEffect : Obligations.UnusedBitsHaveNoEffect := by
  intro len cnt cnt' bytes bytes' s t t' hq h h' hagree
  rw [exec_send_frameBits hq h, exec_send_frameBits hq h']
  exact List.map_congr_left fun i hi => hagree i (List.mem_range.mp hi)

/-! ### The sequencer always has a step -/

section
variable {s : State}

/-- Each symbol operation on a held handle answers a next state. -/
theorem exec_symbol_next {i : Instr} (hi : (symbolDurations s.act i).isSome = true ∨ i = .forceLow)
    (hh : s.handle.isSome = true) : ∃ t, exec i s = .next t := by
  have call (c : LineCall) (onOk : State → State) : ∃ t, performCall c onOk s = .next t :=
    ⟨_, performCall_eq_next.mpr ⟨hh, rfl⟩⟩
  cases i with
  | symStart | symBit0 | symBit1 | symEnd | forceLow => exact call _ _
  | _ => simp [symbolDurations] at hi

/-- The code at a position of a SEND in progress is fetched without a fault, and is that of a symbol operation (R40,
R97). -/
theorem State.Inv.symbolCode_decodes (h : s.Inv) (hq : s.seqState = .sending) :
    ∃ c i, s.symbolCode = .ok c ∧ decode s.params.widths c = .ok i ∧
      ((symbolDurations s.act i).isSome = true ∨ i = .forceLow) := by
  have hslot := (h.position hq).slotInRange
  have hlen := h.lengthChecked (.inr hq)
  by_cases hdata : 1 ≤ s.slot ∧ s.slot ≤ s.frmLen
  · have hbit := State.frameBit_ok (s := s) (i := s.slot - 1) (by omega)
    generalize (Memory.read s.frmBytes ((s.slot - 1) / 8)).getLsbD (7 - (s.slot - 1) % 8) = b at hbit
    refine ⟨.frameBit b, decodeFrameBit b, by simp [State.symbolCode, hdata, hbit], rfl, .inl ?_⟩
    cases b <;> rfl
  · have hcode : s.symbolCode = .ok (.implicit s.slot s.frmLen) := if_neg hdata
    obtain h0 | hend | hlow : s.slot = 0 ∨ s.slot = s.frmLen + 1 ∨ s.slot = s.frmLen + 2 := by omega
    · exact ⟨_, .symStart, hcode, by simp [decode, decodeImplicit, h0], .inl rfl⟩
    · exact ⟨_, .symEnd, hcode, by simp [decode, decodeImplicit, hend], .inl rfl⟩
    · exact ⟨_, .forceLow, hcode, by simp [decode, decodeImplicit, hlow], .inr rfl⟩

/-- With the invariant the sequencer's move answers a next state (R49). -/
theorem State.Inv.sequencerStep_next (h : s.Inv) : ∃ t, sequencerStep s = .next t := by
  cases hq : s.seqState with
  | idle => exact ⟨s, by simp [sequencerStep, hq]⟩
  | acquiring => exact ⟨s.afterAcquire, by rw [sequencerStep_acquiring hq]; exact if_pos hq⟩
  | failed => exact ⟨s.deliverFailure, by simp [sequencerStep, hq]⟩
  | sending =>
    have hh : s.handle.isSome = true := by simp [h.handleWhileSending, hq]
    by_cases hr : s.rep = s.act.repeatCount
    · obtain ⟨hd, hh⟩ := Option.isSome_iff_exists.mp hh
      exact ⟨s.finishSend, by rw [sequencerStep_release hq hr]; simp [exec, execLiRelease, hh]⟩
    · obtain ⟨c, i, hc, hi, hsym⟩ := h.symbolCode_decodes hq
      rw [sequencerStep_symbol hq hr hc hi]
      exact exec_symbol_next hsym hh

end

/-! ### No step faults -/

theorem performCall_ne_fault (c : LineCall) (onOk : State → State) (s : State) (f : Fault) :
    performCall c onOk s ≠ .fault f := by
  unfold performCall
  split <;> nofun

/-- No operation's meaning ends in a fault: only the fetch of a frame bit can (R35). -/
theorem exec_ne_fault (i : Instr) (s : State) (f : Fault) : exec i s ≠ .fault f := by
  cases i with
  | readConfig => nofun
  | setConfig c => simp only [exec, execSetConfig]; split <;> nofun
  | send n c bs => simp only [exec, execSend]; split_ifs <;> nofun
  | liAcquire => simp only [exec, execLiAcquire]; split <;> nofun
  | liRelease => simp only [exec, execLiRelease]; split <;> nofun
  | _ => exact performCall_ne_fault _ _ s f

theorem runCode_ne_fault (c : Code) (s : State) (f : Fault) : runCode c s ≠ .fault f := by
  unfold runCode
  split
  · exact exec_ne_fault _ s f
  · nofun

theorem presentWaiting_ne_fault (k : Nat) (s : State) (f : Fault) : presentWaiting k s ≠ .fault f := by
  unfold presentWaiting
  split
  · nofun
  · split
    · exact exec_ne_fault _ _ f
    · nofun

theorem resetTurn_ne_fault (s : State) (f : Fault) : resetTurn s ≠ .fault f := by
  unfold resetTurn
  split <;> nofun

/-- Settles O42: no other agent's move can fault, and the sequencer's answers a next state. -/
theorem noStepFaults : Obligations.NoStepFaults := by
  intro s f h
  rw [step]
  cases s.turn with
  | cfg | tx => exact runCode_ne_fault _ _ f
  | waiting k => exact presentWaiting_ne_fault k _ f
  | withdraw => nofun
  | reset => exact resetTurn_ne_fault _ f
  | sequencer =>
    obtain ⟨t, ht⟩ := h.popTurn.sequencerStep_next
    simp [runTurn, ht]

/-! ### The snapshot and the frame while a SEND stays in Sending -/

/-- The moves that write ACT or the frame start or end outside Sending (R43, R107). -/
theorem Move.keeps_snapshot {s t : State} {a : Turn} (m : Move s a t) (hs : s.seqState = .sending)
    (ht : t.seqState = .sending) :
    t.act = s.act ∧ t.frmLen = s.frmLen ∧ t.frmCnt = s.frmCnt ∧ t.frmBytes = s.frmBytes := by
  cases m with
  | readConfig | rejectConfig | setConfig | notPresented | withdraw => exact ⟨rfl, rfl, rfl, rfl⟩
  | meetBusy =>
    unfold State.meetBusy
    split <;> exact ⟨rfl, rfl, rfl, rfl⟩
  | accept _ _ _ _ hq | present _ _ _ hq | reset hq | rest hq | acquire hq | deliver hq => simp [hs] at hq
  | release =>
    obtain ⟨_, _, heq⟩ := s.finishSend_eq
    simp [heq] at ht
  | call c onOk _ _ _ _ hsel =>
    cases ha : s.callAnswer with
    | ok =>
      obtain ⟨_, _, _, _, heq⟩ := hsel.callOk_eq
      rw [State.afterCall_ok ha, heq]
      exact ⟨rfl, rfl, rfl, rfl⟩
    | fault =>
      obtain ⟨_, _, _, heq⟩ := s.issue_abort c
      simp [State.afterCall_fault ha, heq] at ht

/-- Settles O46, by the moves. -/
theorem snapshotIsolation : Obligations.SnapshotIsolation :=
  fun _ _ hstep => (step_move hstep).keeps_snapshot

/-! ### How many calls a SEND in Sending has left -/

/-- The calls of a symbol made before this phase (R80). -/
def callsBefore : Phase → Nat
  | .setFirst => 0
  | .holdFirst => 1
  | .setSecond => 2
  | .holdSecond => 3

/-- The calls between the position and the release point when all are answered `Ok`: the repetitions not completed have
`4 L + 9` each, of which those before the position are made (R95, R106). -/
def State.callsLeft (s : State) : Nat :=
  (s.act.repeatCount - s.rep) * (4 * s.frmLen + 9) - (4 * s.slot + callsBefore s.phase)

/-- A call answered `Ok` leaves one call less. -/
theorem Selected.callsLeft_after_ok {s : State} {c : LineCall} {onOk : State → State} (h : Selected s c onOk)
    (hp : s.PositionInv) (hr : s.rep ≠ s.act.repeatCount) :
    (onOk (c.effect (s.issue c))).callsLeft + 1 = s.callsLeft := by
  have hrep := hp.repInRange
  obtain ⟨m, hm⟩ : ∃ m, s.act.repeatCount - s.rep = m + 1 := ⟨s.act.repeatCount - s.rep - 1, by omega⟩
  have hleft : (m + 1) * (4 * s.frmLen + 9) = m * (4 * s.frmLen + 9) + (4 * s.frmLen + 9) := Nat.succ_mul _ _
  rw [LineCall.effect_issue]
  cases h with
  | emit d e hs =>
    rw [State.advance_eq]
    cases hph : s.phase <;> simp only [State.callsLeft, callsBefore, hm, hph] <;> omega
  | forceLow hs =>
    have hph := hp.forcedLowHasOnePhase hs
    have hm' : s.act.repeatCount - (s.rep + 1) = m := by omega
    simp only [State.callsLeft, State.nextRepetition, State.setSeq, callsBefore, hm, hm', hph, hs]
    omega

/-! ### A SEND in Sending reaches its result -/

/-- Within `n` steps the SEND in progress is over: the sequencer is Idle and its one response is given (R105). -/
def State.EndsWithin (s : State) (n : Nat) : Prop :=
  ∃ (k : Nat) (t : State), k ≤ n ∧ Host.Core.run Sys2Proof.core k s = .next t ∧ t.seqState = .idle ∧
    ∃ st, t.responses = s.responses ++ [.txRsp .lockHolder st]

theorem run_succ {s u : State} (h : step s = .next u) (k : Nat) :
    Host.Core.run Sys2Proof.core (k + 1) s = Host.Core.run Sys2Proof.core k u := by
  have hcore : Sys2Proof.core.step s = .next u := h
  simp only [Host.Core.run, hcore]

section
variable {s u : State} {n m : Nat}

theorem State.EndsWithin.mono (h : s.EndsWithin n) (hnm : n ≤ m) : s.EndsWithin m := by
  obtain ⟨k, t, hk, ht⟩ := h
  exact ⟨k, t, hk.trans hnm, ht⟩

theorem State.endsWithin_one {st : Status} (h : step s = .next u) (hq : u.seqState = .idle)
    (hresp : u.responses = s.responses ++ [.txRsp .lockHolder st]) : s.EndsWithin 1 :=
  ⟨1, u, le_rfl, run_succ h 0, hq, st, hresp⟩

/-- A step that gives no response puts the end one step further away. -/
theorem State.EndsWithin.of_step (hu : u.EndsWithin n) (h : step s = .next u) (hresp : u.responses = s.responses) :
    s.EndsWithin (n + 1) := by
  obtain ⟨k, t, hk, hrun, hq, st, hst⟩ := hu
  exact ⟨k + 1, t, Nat.succ_le_succ hk, (run_succ h k).trans hrun, hq, st, hresp ▸ hst⟩

/-- With no move listed the sequencer moves, and no move is used up (log 3). -/
theorem step_of_no_turns (ht : s.turns = []) : step s = sequencerStep s := by
  have hturn : s.turn = .sequencer := by simp [State.turn, ht]
  have hpop : s.popTurn = s := by rw [State.popTurn, ht, List.tail_nil, ← ht]
  rw [step_of_turn hturn, hpop, runTurn]

/-- From Failed the next step delivers the error (R103). -/
theorem State.failed_endsWithin (ht : s.turns = []) (hq : s.seqState = .failed) : s.EndsWithin 1 := by
  have hstep : step s = .next s.deliverFailure := by rw [step_of_no_turns ht]; simp [sequencerStep, hq]
  obtain ⟨d, _, heq⟩ := s.deliverFailure_eq
  exact State.endsWithin_one hstep (by rw [heq]) (by rw [heq])

end

/-- In Sending each call answered `Ok` leaves one call less to make, a fault leads to Failed, and at the release point
Ok is delivered (R49, R105). -/
theorem State.Inv.sending_endsWithin {s : State} (h : s.Inv) (ht : s.turns = []) (hq : s.seqState = .sending) :
    s.EndsWithin (s.callsLeft + 1) := by
  obtain ⟨u, hu⟩ := h.sequencerStep_next
  have hstep : step s = .next u := (step_of_no_turns ht).trans hu
  cases sequencerStep_move hu with
  | rest hq' | acquire hq' | deliver hq' => simp [hq] at hq'
  | release =>
    obtain ⟨d, _, heq⟩ := s.finishSend_eq
    exact (State.endsWithin_one hstep (by rw [heq]) (by rw [heq])).mono (Nat.le_add_left 1 _)
  | call c onOk _ _ hr _ hsel =>
    have hleft := hsel.callsLeft_after_ok (h.position hq) hr
    cases ha : s.callAnswer with
    | ok =>
      rw [State.afterCall_ok ha] at hstep
      have hinv := h.callOk hq hr hsel ha
      obtain ⟨_, _, _, _, heq⟩ := hsel.callOk_eq
      have hends := hinv.sending_endsWithin (by rw [heq, ht]) (by rw [heq, hq])
      rw [hleft] at hends
      exact hends.of_step hstep (by rw [heq])
    | fault =>
      rw [State.afterCall_fault ha] at hstep
      obtain ⟨_, _, _, heq⟩ := s.issue_abort c
      have hends := State.failed_endsWithin (s := (s.issue c).abort) (by rw [heq, ht]) (by rw [heq])
      exact (hends.of_step hstep (by rw [heq])).mono (by omega)
termination_by s.callsLeft
decreasing_by omega

/-- Settles O55: the calls left are at most those of the repetitions not completed. -/
theorem sendReachesItsResult : Obligations.SendReachesItsResult :=
  fun _ h ht hq => (h.sending_endsWithin ht hq).mono (Nat.succ_le_succ (Nat.sub_le _ _))

end Sys2Proof.Machine

/-! ## Proofs: the encodings (30_encoding.md)

What each layout decodes to and which word encodes it, at every width; the response words; the symbol a slot selects;
and the pulses read from the calls of a SEND. -/

namespace Sys2Proof

/-! ### Words of several fields (R54) -/

/-- Fields above other fields stand at the sum of the widths below them. -/
theorem packFields_append {ws vs : List Nat} (h : ws.length = vs.length) (us xs : List Nat) :
    packFields (ws ++ us) (vs ++ xs) = packFields ws vs + 2 ^ ws.sum * packFields us xs := by
  induction ws generalizing vs with
  | nil =>
    obtain rfl := List.length_eq_zero_iff.mp h.symm
    simp [packFields]
  | cons w ws ih =>
    cases vs with
    | nil => simp at h
    | cons v vs =>
      simp only [List.cons_append, packFields, ih (Nat.succ.inj h), List.sum_cons, Nat.pow_add]
      ring

/-- A packed word holds each field cut to its width. -/
theorem fieldAt_packFields_cut (ws vs : List Nat) (k : Nat) :
    fieldAt ws k (packFields ws vs) = vs.getD k 0 % 2 ^ ws.getD k 0 := by
  induction ws generalizing vs k with
  | nil => simp [fieldAt, Nat.mod_one]
  | cons w ws ih =>
    cases vs with
    | nil => simp [packFields, fieldAt]
    | cons v vs =>
      cases k with
      | zero => simp [fieldAt_zero, packFields]
      | succ k =>
        have hshift : packFields (w :: ws) (v :: vs) / 2 ^ w = packFields ws vs := by
          rw [packFields, Nat.add_mul_div_left _ _ (Nat.two_pow_pos w), Nat.div_eq_of_lt (cut_lt v w), Nat.zero_add]
        rw [fieldAt_succ, hshift, ih]
        rfl

/-- The eight durations come first in a record, all of one width. -/
theorem Config.Widths.fields_take_sum (w : Config.Widths) {k : Nat} (hk : k ≤ 8) :
    (w.fields.take k).sum = k * w.dur := by
  have hfields : w.fields = List.replicate 8 w.dur ++ [w.fmt, w.rep] := rfl
  rw [hfields, List.take_append_of_le_length (by simpa using hk), List.take_replicate, Nat.min_eq_left hk,
    List.sum_replicate, smul_eq_mul]

/-! ### CFGREQ (R56) -/

section
variable {w : Config.Widths}

/-- What a CFGREQ of a record and an operation bit decodes to. -/
theorem decodeCfgReq_word {r op : Nat} (hr : r < 2 ^ w.record) (ho : op < 2) :
    decodeCfgReq w (r + 2 ^ w.record * op) =
      if op = 1 then .ok (.setConfig (RawConfig.unpack w (r + 2 ^ w.record * op))) else .ok .readConfig := by
  have hdiv : (r + 2 ^ w.record * op) / 2 ^ w.record = op := by
    rw [Nat.add_mul_div_left _ _ (Nat.two_pow_pos _), Nat.div_eq_of_lt hr, Nat.zero_add]
  have hfits : ¬ 2 ^ (w.record + 1) ≤ r + 2 ^ w.record * op := by
    have hop : 2 ^ w.record * op ≤ 2 ^ w.record * 1 := Nat.mul_le_mul_left _ (by omega)
    rw [Nat.pow_succ]
    omega
  rw [decodeCfgReq, if_neg hfits, hdiv]

theorem decode_encode_setConfig {c : RawConfig} (hc : c.fits w = true) :
    decode w (encode w (.setConfig c)) = .ok (.setConfig c) := by
  have hr := c.pack_lt w
  rw [encode, decode, cfgReqWord_eq Nat.one_lt_two hr, decodeCfgReq_word hr Nat.one_lt_two, if_pos rfl,
    RawConfig.unpack_pack hc]

/-- With the operation bit 0 the record is not read. -/
theorem decode_readConfig {r : Nat} (hr : r < 2 ^ w.record) : decode w (.cfgReq r) = .ok .readConfig :=
  decodeCfgReq_word hr Nat.zero_lt_two

theorem encode_of_decode_setConfig {word : Nat} {c : RawConfig} (h : decode w (.cfgReq word) = .ok (.setConfig c)) :
    encode w (.setConfig c) = .cfgReq word := by
  obtain ⟨_, ⟨hop, hi⟩ | ⟨_, hi⟩⟩ := decodeCfgReq_ok h
  · cases hi
    rw [encode, RawConfig.pack_unpack, cfgReqWord_eq Nat.one_lt_two (cut_lt _ _), ← hop, Nat.mod_add_div]
  · cases hi

/-! ### TXREQ (R57) -/

theorem bytesNat_lt (bytes : List Byte) : bytesNat bytes < 2 ^ (8 * bytes.length) := by
  conv_lhs => rw [← natBytes_bytesNat bytes, bytesNat_natBytes]
  exact cut_lt _ _

/-- A TXREQ is its two fields and the bytes above them. -/
theorem txReqWord_eq (n cnt : Nat) (bytes : List Byte) :
    txReqWord w n cnt bytes = packFields [w.len, w.cnt] [n, cnt] + 2 ^ [w.len, w.cnt].sum * bytesNat bytes := by
  have htop : packFields [8 * bytes.length] [bytesNat bytes] = bytesNat bytes := by
    simp [packFields, Nat.mod_eq_of_lt (bytesNat_lt bytes)]
  rw [← htop]
  exact packFields_append (ws := [w.len, w.cnt]) (vs := [n, cnt]) rfl _ _

theorem decode_encode_send {n cnt : Nat} {bytes : List Byte} (h : sendFits w n cnt bytes = true) :
    decode w (encode w (.send n cnt bytes)) = .ok (.send n cnt bytes) := by
  obtain ⟨⟨hn, hcnt⟩, rfl⟩ := sendFits_iff.mp h
  have hfit : Fit [w.len, w.cnt] [n, bytes.length] := .cons hn (.cons hcnt .nil)
  have hlength : fieldAt [w.len, w.cnt] 0 (txReqWord w n bytes.length bytes) = n := by
    rw [txReqWord_eq, fieldAt_packFields hfit _ 0 (by simp)]; rfl
  have hbyteCount : fieldAt [w.len, w.cnt] 1 (txReqWord w n bytes.length bytes) = bytes.length := by
    rw [txReqWord_eq, fieldAt_packFields hfit _ 1 (by simp)]; rfl
  have hbytes : txReqWord w n bytes.length bytes / 2 ^ (w.len + w.cnt) = bytesNat bytes := by
    have hlow := packFields_lt [w.len, w.cnt] [n, bytes.length]
    rw [txReqWord_eq, show w.len + w.cnt = [w.len, w.cnt].sum from rfl,
      Nat.add_mul_div_left _ _ (Nat.two_pow_pos _), Nat.div_eq_of_lt hlow, Nat.zero_add]
  have hwide : ¬ 2 ^ (w.len + w.cnt + 8 * bytes.length) ≤ txReqWord w n bytes.length bytes := by
    have := packFields_lt [w.len, w.cnt, 8 * bytes.length] [n, bytes.length, bytesNat bytes]
    rw [Nat.not_le, Nat.add_assoc]
    exact this
  rw [encode, decode, decodeTxReq, hlength, hbyteCount, hbytes, if_neg (not_not.mpr rfl), if_neg hwide,
    natBytes_bytesNat]

theorem encode_of_decode_txReq {len val : Nat} {i : Instr} (h : decode w (.txReq len val) = .ok i) :
    encode w i = .txReq len val := by
  simp only [decode, decodeTxReq] at h
  split_ifs at h with hlen hwide
  cases h
  have hlen := not_not.mp hlen
  have hword := packFields_fieldAt [w.len, w.cnt, 8 * fieldAt [w.len, w.cnt] 1 val] val
  have hsum : [w.len, w.cnt, 8 * fieldAt [w.len, w.cnt] 1 val].sum = len := by
    simp only [hlen, List.sum_cons, List.sum_nil, Nat.add_zero, Nat.add_assoc]
  rw [hsum, Nat.mod_eq_of_lt (Nat.not_le.mp hwide)] at hword
  rw [encode, txReqWord, natBytes_length, bytesNat_natBytes, ← hlen]
  exact congrArg (Code.txReq len) hword

/-! ### LINECALL (R66) -/

/-- Every LINECALL that decodes. -/
theorem decodeLineCall_ok {len val : Nat} {i : Instr} (h : decodeLineCall w len val = .ok i) :
    (len = 2 ∧ val = 0 ∧ i = .liAcquire) ∨ (len = 2 ∧ val = 3 ∧ i = .liRelease) ∨
    (len = 3 ∧ val / 2 = 1 ∧ i = .liSetLevel (Level.ofBit (val % 2 == 1))) ∨
    (len = w.dur + 2 ∧ val / 2 ^ w.dur = 2 ∧ i = .liDelay (val % 2 ^ w.dur)) := by
  unfold decodeLineCall at h
  split_ifs at h with hacquire hrelease hlevel hdelay
  · cases h; exact .inl ⟨hacquire.1, hacquire.2, rfl⟩
  · cases h; exact .inr (.inl ⟨hrelease.1, hrelease.2, rfl⟩)
  · cases h; exact .inr (.inr (.inl ⟨hlevel.1, hlevel.2, rfl⟩))
  · cases h; exact .inr (.inr (.inr ⟨hdelay.1, hdelay.2, rfl⟩))

/-- A delay of `n` has its call code above the argument. -/
theorem encode_liDelay {n : Nat} (hn : n < 2 ^ w.dur) :
    encode w (.liDelay n) = .lineCall (w.dur + 2) (n + 2 ^ w.dur * 2) := by
  rw [encode, packFields_two hn (by decide)]

/-- No other call code is read from a delay, also where `DUR_W` gives its word the length of another call. -/
theorem decode_encode_liDelay {n : Nat} (hn : n < 2 ^ w.dur) :
    decode w (encode w (.liDelay n)) = .ok (.liDelay n) := by
  have hcode : (n + 2 ^ w.dur * 2) / 2 ^ w.dur = 2 := by
    rw [Nat.add_mul_div_left _ _ (Nat.two_pow_pos _), Nat.div_eq_of_lt hn]
  have harg : (n + 2 ^ w.dur * 2) % 2 ^ w.dur = n := by rw [Nat.add_mul_mod_self_left, Nat.mod_eq_of_lt hn]
  have hacquire : ¬ (w.dur + 2 = 2 ∧ n + 2 ^ w.dur * 2 = 0) := by
    have := Nat.two_pow_pos w.dur
    omega
  have hrelease : ¬ (w.dur + 2 = 2 ∧ n + 2 ^ w.dur * 2 = 3) := by
    rintro ⟨hd, hv⟩
    rw [show w.dur = 0 by omega] at hn hv
    omega
  have hlevel : ¬ (w.dur + 2 = 3 ∧ (n + 2 ^ w.dur * 2) / 2 = 1) := by
    rintro ⟨hd, hv⟩
    rw [show w.dur = 1 by omega] at hv
    omega
  rw [encode_liDelay hn, decode, decodeLineCall, if_neg hacquire, if_neg hrelease, if_neg hlevel, if_pos ⟨rfl, hcode⟩,
    harg]

theorem encode_of_decode_lineCall {len val : Nat} {i : Instr} (h : decode w (.lineCall len val) = .ok i) :
    encode w i = .lineCall len val := by
  obtain ⟨rfl, rfl, rfl⟩ | ⟨rfl, rfl, rfl⟩ | ⟨rfl, hcode, rfl⟩ | ⟨rfl, hcode, rfl⟩ := decodeLineCall_ok h
  · rfl
  · rfl
  · obtain rfl | rfl : val = 2 ∨ val = 3 := by omega
    · rfl
    · rfl
  · have hval := Nat.mod_add_div val (2 ^ w.dur)
    rw [hcode] at hval
    rw [encode_liDelay (cut_lt _ _), hval]

/-! ### IMPLICIT (R61, R97) -/

theorem decodeImplicit_start (n : Nat) : decodeImplicit 0 n = .ok .symStart := rfl

theorem decodeImplicit_end (n : Nat) : decodeImplicit (n + 1) n = .ok .symEnd := by simp [decodeImplicit]

theorem decodeImplicit_forceLow (n : Nat) : decodeImplicit (n + 2) n = .ok .forceLow := by simp [decodeImplicit]

/-! ### Every layout -/

/-- Every code that decodes is that of a well-formed instruction (R57, R58). -/
theorem decode_wellFormed {c : Code} {i : Instr} (h : decode w c = .ok i) : i.wellFormed w = true := by
  cases c with
  | cfgReq word =>
    obtain ⟨_, ⟨_, rfl⟩ | ⟨_, rfl⟩⟩ := decodeCfgReq_ok h
    · exact RawConfig.unpack_fits w word
    · rfl
  | txReq len val =>
    obtain ⟨_, _, _, rfl, hfits⟩ := decodeTxReq_ok h
    exact hfits
  | frameBit b =>
    cases h
    cases b <;> rfl
  | implicit slot frmLen =>
    simp only [decode, decodeImplicit] at h
    split_ifs at h <;> cases h <;> rfl
  | lineCall len val =>
    obtain ⟨_, _, rfl⟩ | ⟨_, _, rfl⟩ | ⟨_, _, rfl⟩ | ⟨_, _, rfl⟩ := decodeLineCall_ok h
    · rfl
    · rfl
    · rfl
    · exact decide_eq_true (cut_lt _ _)

end

/-- Settles O4: each layout holds every operand that fits at its place. -/
theorem decodeEncodeAgree : Obligations.DecodeEncodeAgree := by
  intro w i hwf
  cases i with
  | readConfig => exact decode_readConfig (Nat.two_pow_pos _)
  | setConfig c => exact decode_encode_setConfig hwf
  | send n cnt bytes => exact decode_encode_send hwf
  | liSetLevel l => cases l <;> rfl
  | liDelay n => exact decode_encode_liDelay (of_decide_eq_true hwf)
  | symStart | symBit0 | symBit1 | symEnd | forceLow | liAcquire | liRelease => rfl

/-- Settles O5, layout by layout. -/
theorem decodedIsWellFormed : Obligations.DecodedIsWellFormed :=
  fun _ _ _ h => decode_wellFormed h

/-- Settles O6: the fields of a word, packed again, are the word. -/
theorem encodeDecodeAgree : Obligations.EncodeDecodeAgree := by
  refine fun w => ⟨fun _ _ => encode_of_decode_setConfig, fun _ _ _ => encode_of_decode_txReq, fun b i h => ?_,
    fun _ _ _ => encode_of_decode_lineCall⟩
  cases h
  cases b <;> rfl

/-- Settles O7: with the operation bit 0 no bit of the record selects anything. -/
theorem readConfigRecordIgnored : Obligations.ReadConfigRecordIgnored :=
  fun _ _ => decode_readConfig

/-- Settles O2, by running the decoder. -/
theorem wordsOfTheSpecDecode : Obligations.WordsOfTheSpecDecode := by
  unfold Obligations.WordsOfTheSpecDecode
  decide +kernel

/-- Settles O3, by the two codes of a level. -/
theorem levelCodes : Obligations.LevelCodes := by
  refine ⟨rfl, rfl, fun l => ?_, fun w v hv => ?_⟩
  · cases l <;> rfl
  · obtain rfl | rfl : v = 0 ∨ v = 1 := by omega
    · rfl
    · rfl

/-! ### The record's fields (R54) -/

/-- The slice of a record at a duration's place is the duration. -/
theorem RawConfig.pack_duration {w : Config.Widths} {c : RawConfig} (h : c.fits w = true) {k : Nat} (hk : k < 8) :
    c.pack w / 2 ^ (k * w.dur) % 2 ^ w.dur = c.fields.getD k 0 := by
  have hwidth : w.fields.getD k 0 = w.dur := by interval_cases k <;> rfl
  have hfield := RawConfig.fieldAt_pack h 0 k (by omega)
  rwa [Nat.mul_zero, Nat.add_zero, fieldAt, w.fields_take_sum hk.le, hwidth] at hfield

/-- The slice of a record at the format's place is the format, cut to its width. -/
theorem RawConfig.pack_format (w : Config.Widths) (c : RawConfig) :
    c.pack w / 2 ^ (8 * w.dur) % 2 ^ w.fmt = c.format % 2 ^ w.fmt := by
  rw [← w.fields_take_sum (Nat.le_refl 8)]
  exact fieldAt_packFields_cut w.fields c.fields 8

/-- Above the format stands the repeat count alone. -/
theorem RawConfig.pack_repeatCount {w : Config.Widths} {c : RawConfig} (h : c.fits w = true) :
    c.pack w / 2 ^ (8 * w.dur + w.fmt) = c.repeatCount := by
  have hlt : c.pack w / 2 ^ (8 * w.dur + w.fmt) < 2 ^ w.rep :=
    Nat.div_lt_of_lt_mul (by rw [← Nat.pow_add]; exact c.pack_lt w)
  have hplace : 8 * w.dur + w.fmt = (w.fields.take 9).sum := by
    simp only [Config.Widths.fields, List.take_succ_cons, List.take_zero, List.sum_cons, List.sum_nil]
    omega
  have hfield := RawConfig.fieldAt_pack h 0 9 (by decide)
  rw [Nat.mul_zero, Nat.add_zero, fieldAt, ← hplace] at hfield
  exact (Nat.mod_eq_of_lt hlt).symm.trans hfield

/-- Settles O8: each field stands at the sum of the widths before it; the default widths are one case. -/
theorem recordFieldPositions : Obligations.RecordFieldPositions := by
  refine (and_iff_left_of_imp fun general => ?_).mpr fun w c hc => ?_
  · simpa only [Config.defaultWidths, Nat.reduceMul, Nat.reduceAdd] using general Config.defaultWidths
  obtain ⟨⟨_, hformat⟩, _⟩ := RawConfig.fits_iff.mp hc
  have hdur {k : Nat} (hk : k < 8) := RawConfig.pack_duration hc hk
  refine ⟨?_, ?_, hdur (k := 2) (by decide), hdur (k := 3) (by decide), hdur (k := 4) (by decide),
    hdur (k := 5) (by decide), hdur (k := 6) (by decide), hdur (k := 7) (by decide),
    (c.pack_format w).trans (Nat.mod_eq_of_lt hformat), RawConfig.pack_repeatCount hc, c.pack_lt w⟩
  · have h0 := hdur (k := 0) (by decide)
    rwa [Nat.zero_mul, Nat.pow_zero, Nat.div_one] at h0
  · have h1 := hdur (k := 1) (by decide)
    rwa [Nat.one_mul] at h1

/-! ### Responses (R55, R56, R59, R64) -/

theorem Status.code_lt (t : Status) : t.code < 5 := by cases t <;> decide

/-- A CFGRSP is its status and the record above it. -/
theorem cfgRspWord_eq {w : Config.Widths} (t : Status) {r : Nat} (hr : r < 2 ^ w.record) :
    cfgRspWord w t r = t.code + 2 ^ 3 * r :=
  packFields_two (t.code_lt.trans (by decide)) hr

/-- Settles O9: the status is below `2 ^ 3`, so the record stands whole above it. -/
theorem responseWords : Obligations.ResponseWords := by
  refine ⟨fun w t r hr => ?_, rfl, rfl, rfl, rfl, rfl, Status.code_lt⟩
  have ht := t.code_lt
  rw [cfgRspWord_eq t hr]
  omega

/-- The codes that are no variant (R55). -/
theorem BitFormat.ofCode_eq_none_iff {c : Nat} : BitFormat.ofCode c = none ↔ 2 ≤ c := by
  unfold BitFormat.ofCode
  split_ifs with h0 h1
  · simp [h0]
  · simp [h1]
  · simp only [true_iff]
    omega

theorem BitFormat.code_lt (f : BitFormat) : f.code < 2 := by cases f <;> decide

end Sys2Proof

namespace Sys2Proof.Machine

/-- Settles O10: a candidate whose format is no variant is not stored, and two bits hold the code of a variant. -/
theorem formatCodes : Obligations.FormatCodes := by
  refine ⟨rfl, rfl, fun _ => BitFormat.ofCode_eq_none_iff, fun c s hc => ?_, fun s hp => ?_⟩
  · have hnone : c.validate = none := by rw [RawConfig.validate, BitFormat.ofCode_eq_none_iff.mpr hc]
    refine ⟨s.respondSetConfig .invalidFormat, ?_, rfl, _, rfl⟩
    simp only [exec, execSetConfig, hnone]
  · refine ⟨_, _, rfl, rfl, ?_⟩
    obtain ⟨_, hfmt⟩ : 19 ≤ s.params.widths.dur ∧ 2 ≤ s.params.widths.fmt := by
      simp only [Config.Params.admitted, Config.Widths.admitted, Bool.and_eq_true, decide_eq_true_eq] at hp
      exact hp.1
    have hcode : s.cfg.format.code < 2 ^ s.params.widths.fmt :=
      (s.cfg.format.code_lt.trans_le hfmt).trans Nat.lt_two_pow_self
    rw [RawConfig.pack_format]
    refine (Nat.mod_eq_of_lt hcode).trans ?_
    cases s.cfg.format <;> rfl

/-! ### The symbol a slot selects (R97) -/

section
variable {s : State}

/-- In a data slot a bit of the frame is the code. -/
theorem symbolCode_data {i : Nat} (hs : s.slot = i + 1) (hi : i < s.frmLen) (hlen : s.frmLen ≤ 8 * s.frmCnt) :
    s.symbolCode = .ok (.frameBit ((Memory.read s.frmBytes (i / 8)).getLsbD (7 - i % 8))) := by
  have hdata : 1 ≤ s.slot ∧ s.slot ≤ s.frmLen := by omega
  rw [State.symbolCode, if_pos hdata, hs, Nat.add_sub_cancel, State.frameBit_ok (by omega)]

/-- In any other slot the position alone is the code. -/
theorem symbolCode_implicit (hs : s.slot = 0 ∨ s.frmLen < s.slot) :
    s.symbolCode = .ok (.implicit s.slot s.frmLen) :=
  if_neg (by omega)

end

/-- Settles O35: the code at the position, decoded, in each of the four ranges of slots. -/
theorem slotSelectsTheSymbol : Obligations.SlotSelectsTheSymbol := by
  intro s ht hq hr hlen
  have runs {c : Code} {i : Instr} (hc : s.symbolCode = .ok c) (hi : decode s.params.widths c = .ok i) :
      step s = exec i { s with turns := s.turns.tail } :=
    (step_of_turn ht).trans (sequencerStep_symbol hq hr.ne hc hi)
  refine ⟨fun hs => ?_, fun i hs hi => ?_, fun hs => ?_, fun hs => ?_⟩
  · exact runs (symbolCode_implicit (.inl hs)) (by rw [decode, hs, decodeImplicit_start])
  · exact runs (symbolCode_data hs hi hlen) rfl
  · exact runs (symbolCode_implicit (.inr (by omega))) (by rw [decode, hs, decodeImplicit_end])
  · exact runs (symbolCode_implicit (.inr (by omega))) (by rw [decode, hs, decodeImplicit_forceLow])

/-! ### The pulses of a SEND (R68, R87, R106) -/

/-- Each level of a symbol is followed by its delay, so the calls after it do not bear on its pulses. -/
theorem pulses_symEvents (f : BitFormat) (h l : Nat) (es : List Event) :
    pulses (symEvents f h l ++ es) = symPulses f h l ++ pulses es := by
  cases f <;> rfl

theorem pulses_bitEvents (c : TimingConfig) (bits : List Bool) (es : List Event) :
    pulses (bits.flatMap (bitEvents c) ++ es) = bits.flatMap (bitPulses c) ++ pulses es := by
  induction bits with
  | nil => rfl
  | cons b bits ih =>
    have hb (es : List Event) : pulses (bitEvents c b ++ es) = bitPulses c b ++ pulses es := by
      cases b <;> exact pulses_symEvents _ _ _ es
    simp only [List.flatMap_cons, List.append_assoc, hb, ih]

/-- The calls of `n` repetitions and the release after them. -/
def repsThenRelease (c : TimingConfig) (bits : List Bool) (n : Nat) : List Event :=
  (List.replicate n (repEvents c bits)).flatten ++ [.release]

/-- Neither a repetition nor the release begins with a delay, so a level set before it is held for 0. -/
theorem pulses_forceLow (c : TimingConfig) (bits : List Bool) (n : Nat) :
    pulses (.setLevel .low .ok :: repsThenRelease c bits n) = ⟨.low, 0⟩ :: pulses (repsThenRelease c bits n) := by
  cases n with
  | zero => rfl
  | succ n =>
    simp only [repsThenRelease, List.replicate_succ, List.flatten_cons, repEvents, List.append_assoc]
    cases c.format <;> rfl

theorem pulses_repsThenRelease (c : TimingConfig) (bits : List Bool) (n : Nat) :
    pulses (repsThenRelease c bits n) = (List.replicate n (repPulses c bits)).flatten := by
  induction n with
  | zero => rfl
  | succ n ih =>
    have hsplit : repsThenRelease c bits (n + 1) =
        symEvents c.format c.startHigh c.startLow ++ (bits.flatMap (bitEvents c) ++
          (symEvents c.format c.endHigh c.endLow ++ (.setLevel .low .ok :: repsThenRelease c bits n))) := by
      simp [repsThenRelease, repEvents, List.replicate_succ]
    rw [hsplit, pulses_symEvents, pulses_bitEvents, pulses_symEvents, pulses_forceLow, ih]
    simp [repPulses, List.replicate_succ]

/-- Settles O53: the acquisition adds no pulse, and each repetition its own. -/
theorem pulsesOfTheTrace : Obligations.PulsesOfTheTrace :=
  fun c bits => pulses_repsThenRelease c bits c.repeatCount

end Sys2Proof.Machine

/-! ### Configuration (R73, R74) -/

namespace Sys2Proof

/-- Validation fails exactly where the format's code is no variant (R55, R73). -/
theorem RawConfig.validate_eq_none_iff {c : RawConfig} : c.validate = none ↔ 2 ≤ c.format := by
  rw [← BitFormat.ofCode_eq_none_iff, RawConfig.validate]
  cases BitFormat.ofCode c.format <;> simp

/-- A candidate whose format's code is a variant is validated as it is, with that variant. -/
theorem RawConfig.validate_of_ofCode {c : RawConfig} {f : BitFormat} (h : BitFormat.ofCode c.format = some f) :
    c.validate = some
      { startHigh := c.startHigh, startLow := c.startLow, endHigh := c.endHigh, endLow := c.endLow,
        bit0High := c.bit0High, bit0Low := c.bit0Low, bit1High := c.bit1High, bit1Low := c.bit1Low,
        format := f, repeatCount := c.repeatCount } := by
  rw [RawConfig.validate, h]

end Sys2Proof

namespace Sys2Proof.Machine

/-- A SET_CONFIG response is written alone; its record, of any value, fits the record's width (R56). -/
theorem State.respondSetConfig_eq (s : State) (t : Status) :
    ∃ r : Nat, r < 2 ^ s.params.widths.record ∧
      s.respondSetConfig t = { s with draws := s.draws + 1, responses := s.responses ++ [.cfgRsp t r] } :=
  ⟨_, Nat.mod_lt _ (Nat.two_pow_pos _), rfl⟩

/-- A rejected candidate leaves only the response to write. -/
theorem exec_setConfig_of_validate_none {c : RawConfig} (h : c.validate = none) (s : State) :
    ∃ r : Nat, r < 2 ^ s.params.widths.record ∧ exec (.setConfig c) s = .next
      { s with draws := s.draws + 1, responses := s.responses ++ [.cfgRsp .invalidFormat r] } := by
  obtain ⟨r, hr, hresp⟩ := s.respondSetConfig_eq .invalidFormat
  exact ⟨r, hr, by simp only [exec, execSetConfig, h, hresp]⟩

/-- A validated candidate is stored as CFG, and the response written. -/
theorem exec_setConfig_of_validate_some {c : RawConfig} {v : TimingConfig} (h : c.validate = some v) (s : State) :
    ∃ r : Nat, r < 2 ^ s.params.widths.record ∧ exec (.setConfig c) s = .next
      { s with cfg := v, draws := s.draws + 1, responses := s.responses ++ [.cfgRsp .ok r] } := by
  obtain ⟨r, hr, hresp⟩ := (s.setCfg v).respondSetConfig_eq .ok
  refine ⟨r, hr, ?_⟩
  simp only [exec, execSetConfig, h]
  exact congrArg _ hresp

/-- Settles O11: validation either gives the whole record to store or leaves only the response to write. -/
theorem setConfigIsAtomic : Obligations.SetConfigIsAtomic := by
  refine ⟨fun c f s hf => ?_, fun c s h0 h1 => ?_⟩
  · have hcode : BitFormat.ofCode c.format = some f := by
      obtain ⟨hc, rfl⟩ | ⟨hc, rfl⟩ := hf <;> rw [hc] <;> rfl
    exact exec_setConfig_of_validate_some (RawConfig.validate_of_ofCode hcode) s
  · exact exec_setConfig_of_validate_none (RawConfig.validate_eq_none_iff.mpr (by omega)) s

/-- Settles O12: the response's record is CFG's own, and the statement spells out `TimingConfig.toRaw` and
`BitFormat.code`. -/
theorem readConfigReturnsCfg : Obligations.ReadConfigReturnsCfg :=
  fun _ => rfl

end Sys2Proof.Machine

/-! ## Proofs: the symbol operations

A symbol is EMIT with its own pair, and EMIT is one call followed by the advance of the position (R79 to R85). -/

namespace Sys2Proof.Machine

/-- The operation that makes the call for its own sake (R114, R115). -/
def LineCall.instr : LineCall → Instr
  | .setLevel v => .liSetLevel v
  | .delay n => .liDelay n

theorem LineCall.exec_instr (c : LineCall) (s : State) : exec c.instr s = performCall c id s := by
  cases c <;> rfl

section
variable {s : State}

/-- On a held handle, a call answered `Ok` has its effect, and then what follows it. -/
theorem performCall_ok {hd : LineHandle} (hh : s.handle = some hd) (ha : s.callAnswer = .ok) (c : LineCall)
    (onOk : State → State) : performCall c onOk s = .next (onOk (c.effect (s.issue c))) :=
  performCall_eq_next.mpr ⟨by rw [hh]; rfl, (State.afterCall_ok ha).symm⟩

/-- What follows a call comes after an `Ok` only: a fault and a refusal are the call's own. -/
theorem performCall_eq_mapNext (c : LineCall) (onOk : State → State) (s : State) :
    performCall c onOk s =
      if s.callAnswer = .ok then mapNext onOk (performCall c id s) else performCall c id s := by
  cases hh : s.handle with
  | none => simp [performCall, hh]
  | some hd =>
    cases ha : s.callAnswer with
    | ok => simp [performCall_ok hh ha]
    | fault => simp [performCall, hh, State.afterCall_fault ha]

/-- Each symbol is EMIT with the pair it takes from ACT (R62, R81 to R84). -/
theorem exec_symbol {i : Instr} {h l : Nat} (hi : symbolDurations s.act i = some (h, l)) :
    exec i s = emitStep h l s := by
  cases i with
  | symStart | symBit0 | symBit1 | symEnd => cases hi; rfl
  | _ => cases hi

/-- A symbol whose call answers `Ok` in phase `p` writes what the call of that phase writes, and then advances
(R80). -/
theorem exec_symbol_ok {i : Instr} {h l : Nat} {hd : LineHandle} {p : Phase}
    (hi : symbolDurations s.act i = some (h, l)) (hh : s.handle = some hd) (ha : s.callAnswer = .ok)
    (hp : s.phase = p) :
    exec i s = .next (State.advance { s with
      callAnswers := s.callAnswers.tail, draws := s.draws + 1, phase := p,
      trace := s.trace ++ [(emitCall h l s.act.format p).event .ok],
      lineCmd := ((emitCall h l s.act.format p).effect s).lineCmd }) := by
  subst hp
  rw [exec_symbol hi, emitStep, performCall_ok hh ha, LineCall.effect_issue, ha]
  cases emitCall h l s.act.format s.phase <;> rfl

end

/-- Settles O33: EMIT is the call of the phase followed by the advance, and LI_SET_LEVEL and LI_DELAY are that call
with nothing after it. -/
theorem symbolIsItsCallThenAdvance : Obligations.SymbolIsItsCallThenAdvance := by
  intro i h l s hi
  refine ⟨(emitCall h l s.act.format s.phase).instr, ?_, ?_⟩
  · cases s.act.format <;> cases s.phase <;> rfl
  · rw [exec_symbol hi, LineCall.exec_instr]
    exact performCall_eq_mapNext _ _ s

/-- Settles O28: the call of phase 0 for each format. -/
theorem symbolSetsFirstLevel : Obligations.SymbolSetsFirstLevel := by
  intro i h l hd s hi hh ha hp
  rw [exec_symbol_ok hi hh ha hp]
  cases s.act.format <;> rfl

/-- Settles O29: the call of phase 1 for each format. -/
theorem symbolHoldsFirstHalf : Obligations.SymbolHoldsFirstHalf := by
  intro i h l hd s hi hh ha hp
  rw [exec_symbol_ok hi hh ha hp]
  cases s.act.format <;> rfl

/-- Settles O30: the call of phase 2 for each format. -/
theorem symbolSetsSecondLevel : Obligations.SymbolSetsSecondLevel := by
  intro i h l hd s hi hh ha hp
  rw [exec_symbol_ok hi hh ha hp]
  cases s.act.format <;> rfl

/-- Settles O31: the call of phase 3 for each format; the advance from phase 3 is to the next slot. -/
theorem symbolHoldsSecondHalf : Obligations.SymbolHoldsSecondHalf := by
  intro i h l hd s hi hh ha hp
  rw [exec_symbol_ok hi hh ha hp]
  cases s.act.format <;> rfl

/-- Settles O32: FORCE_LOW is a SetLevel(Low) followed by the move to the next repetition. -/
theorem forceLowStep : Obligations.ForceLowStep := by
  intro hd s hh ha
  have hcall : exec .forceLow s = performCall (.setLevel .low) State.nextRepetition s := rfl
  rw [hcall, performCall_ok hh ha, LineCall.effect_issue, ha]
  rfl

end Sys2Proof.Machine

/-! ## Proofs: SEND at the TX port, and the edges of the state machine (42_send.md)

The accepting step and a SEND that meets another; what a host's move writes; and over every move the edge taken and the
response given. -/

namespace Sys2Proof.Machine

/-! ### The accepting step and a SEND that meets another (R90, R91, R102) -/

section
variable {s : State} {n c : Nat}

theorem exec_send_idle (hq : s.seqState = .idle) (hc : c ≤ s.params.maxBytes) (bs : List Byte) :
    exec (.send n c bs) s = .next (s.acceptSend n c bs) :=
  (if_neg (Nat.not_lt.mpr hc)).trans (if_pos hq)

theorem exec_send_busy (hq : s.seqState ≠ .idle) (hc : c ≤ s.params.maxBytes) (bs : List Byte) :
    exec (.send n c bs) s = .next (s.meetBusy ⟨n, c, bs⟩) :=
  (if_neg (Nat.not_lt.mpr hc)).trans (if_neg hq)

end

/-- Settles O14. -/
theorem sendAccepted : Obligations.SendAccepted := by
  intro len cnt bytes s hq hc hlen
  rw [exec_send_idle hq hc, s.acceptSend_inBuffer bytes hlen]

/-- Settles O16. -/
theorem sendTooLong : Obligations.SendTooLong := by
  intro len cnt bytes s hq hc hlen
  rw [exec_send_idle hq hc, s.acceptSend_tooLong bytes hlen]

/-- Settles O15, from the accepting step on either side of the bound. -/
theorem bitLengthCheck : Obligations.BitLengthCheck := by
  intro len cnt bytes s hq hc
  refine ⟨_, exec_send_idle hq hc bytes, s.acceptSend_trace len cnt bytes, ?_⟩
  split
  · next hlen => rw [s.acceptSend_tooLong bytes hlen]; exact ⟨rfl, rfl⟩
  · next hlen => rw [s.acceptSend_inBuffer bytes (Nat.le_of_not_lt hlen)]; exact ⟨rfl, rfl⟩

/-- Settles O17: the policy decides on a SEND issued outside Idle, and Idle on one that waits. -/
theorem sendWhileBusy : Obligations.SendWhileBusy := by
  refine ⟨fun len cnt bytes s hq hc => ⟨fun hp => ?_, fun hp => ?_⟩,
    fun k r ts s ht hr => ⟨fun hq => ?_, fun hq => ?_⟩⟩
  · rw [exec_send_busy hq hc, State.meetBusy, hp]; rfl
  · rw [exec_send_busy hq hc, State.meetBusy, hp]; rfl
  · simp only [step_of_turns ht, runTurn, presentWaiting, hr, if_pos hq]; rfl
  · simp only [step_of_turns ht, runTurn, presentWaiting, hr, if_neg hq]

/-- Settles O37. -/
theorem withdrawalLeavesNoTrace : Obligations.WithdrawalLeavesNoTrace :=
  fun _ _ _ ht => step_of_turns ht

/-! ### The acquisition, the release and the delivery (R92, R98, R103) -/

section
variable {s : State}

theorem exec_liAcquire (hq : s.seqState = .acquiring) : exec .liAcquire s = .next s.afterAcquire := if_pos hq

theorem exec_liRelease {hd : LineHandle} (hh : s.handle = some hd) : exec .liRelease s = .next s.finishSend := by
  simp only [exec, execLiRelease, hh]

theorem sequencerStep_failed (hq : s.seqState = .failed) : sequencerStep s = .next s.deliverFailure := by
  simp only [sequencerStep, hq]

end

/-- Settles O22, by the answer to the acquisition. -/
theorem acquisitionStep : Obligations.AcquisitionStep := by
  refine fun s hq => ⟨fun h ha => ?_, fun ha => ?_⟩
  · rw [exec_liAcquire hq, State.afterAcquire_ok ha]
  · rw [exec_liAcquire hq, State.afterAcquire_err ha]

/-- Settles O25. -/
theorem releaseStep : Obligations.ReleaseStep := by
  intro h s hh
  obtain ⟨d, hd, heq⟩ := s.finishSend_eq
  exact ⟨d, hd, by rw [exec_liRelease hh, heq]⟩

/-- Settles O36. -/
theorem failedDeliversItsStatus : Obligations.FailedDeliversItsStatus := by
  intro s ht hq
  obtain ⟨d, hd, heq⟩ := s.popTurn.deliverFailure_eq
  exact ⟨d, hd, by rw [step_of_turn ht, runTurn, sequencerStep_failed (s := s.popTurn) hq, heq]; rfl⟩

/-- Settles O43: the invariant holds with the turn used up. -/
theorem sequencerNeverStops : Obligations.SequencerNeverStops := by
  intro s h ht
  rw [step_of_turn ht]
  exact h.popTurn.sequencerStep_next

/-! ### What the move of a host does -/

/-- The responses a step can add that does not end a SEND: none, one on the CFG port, or one to a requester turned
away (R56, R102). -/
def AddsHostResponse (rs rs' : List Response) : Prop :=
  rs' = rs ∨ (∃ st r, rs' = rs ++ [.cfgRsp st r]) ∨ rs' = rs ++ [.txRsp .turnedAway .lineUnavailable]

/-- `t` is `s` with at most CFG, the requests waiting, the responses and the counter of free values written: nothing of
a SEND in progress. -/
def State.HostWrites (s t : State) : Prop :=
  ∃ c ws n rs, AddsHostResponse s.responses rs ∧
    t = { s with cfg := c, txWaiting := ws, draws := n, responses := rs }

theorem State.hostWrites_meetBusy (s : State) (r : SendRequest) : s.HostWrites (s.meetBusy r) := by
  unfold State.meetBusy
  split
  · exact ⟨_, _, _, _, .inl rfl, rfl⟩
  · exact ⟨_, _, _, _, .inr (.inr rfl), rfl⟩

/-- A host's move leaves a SEND in progress alone; only in Idle does it accept a SEND or reset the block (R99, R104,
R111, R143). -/
theorem Move.host_cases {s t : State} {a : Turn} (m : Move s a t) (ha : a ≠ .sequencer) :
    s.HostWrites t ∨
    (s.seqState = .idle ∧
      (t = s.resetEvent ∨ ∃ ws n c bs, t = State.acceptSend { s with txWaiting := ws } n c bs)) := by
  cases m with
  | readConfig | rejectConfig | setConfig => exact .inl ⟨_, _, _, _, .inr (.inl ⟨_, _, rfl⟩), rfl⟩
  | notPresented | withdraw => exact .inl ⟨_, _, _, _, .inl rfl, rfl⟩
  | meetBusy _ _ r => exact .inl (s.hostWrites_meetBusy r)
  | accept _ _ r _ hq => exact .inr ⟨hq, .inr ⟨s.txWaiting, r.bitLength, r.byteCount, r.bytes, rfl⟩⟩
  | present k r _ hq => exact .inr ⟨hq, .inr ⟨s.txWaiting.eraseIdx k, r.bitLength, r.byteCount, r.bytes, rfl⟩⟩
  | reset hq => exact .inr ⟨hq, .inl rfl⟩
  | rest | acquire | release | call | deliver => exact absurd rfl ha

/-- Settles O47: outside Idle a host writes none of these registers. -/
theorem hostsLeaveTheSendAlone : Obligations.HostsLeaveTheSendAlone := by
  intro s t hq ha hstep
  rcases (step_move hstep).host_cases ha with ⟨_, _, _, _, _, rfl⟩ | ⟨hidle, _⟩
  · exact ⟨rfl, rfl, rfl, rfl, rfl, rfl, rfl, rfl, rfl, rfl, rfl, rfl, rfl⟩
  · exact absurd hidle hq

/-! ### The edges (R99) and the responses (R110) -/

section
variable (s : State)

@[simp] theorem State.acceptSend_responses (n c : Nat) (bs : List Byte) :
    (s.acceptSend n c bs).responses = s.responses := by
  unfold State.acceptSend
  split <;> rfl

@[simp] theorem State.resetEvent_responses : s.resetEvent.responses = s.responses := rfl

@[simp] theorem State.afterAcquire_responses : s.afterAcquire.responses = s.responses := by
  unfold State.afterAcquire
  split <;> rfl

theorem State.afterAcquire_ne_idle : s.afterAcquire.seqState ≠ .idle := by
  unfold State.afterAcquire
  split <;> nofun

end

/-- The call of a position ends in Sending or, after a fault, in Failed, and gives no response (R97, R130). -/
theorem Selected.afterCall_edge {s : State} {c : LineCall} {onOk : State → State} (h : Selected s c onOk) :
    (s.afterCall c onOk).responses = s.responses ∧
    ((s.afterCall c onOk).seqState = s.seqState ∧ (s.afterCall c onOk).trace = s.trace ++ [c.event .ok] ∨
     (s.afterCall c onOk).seqState = .failed ∧
      ∃ b : CallAnswer, (s.afterCall c onOk).trace = s.trace ++ [c.event .fault, .setLevel .low b, .release]) := by
  cases ha : s.callAnswer with
  | ok =>
    obtain ⟨_, _, _, _, heq⟩ := h.callOk_eq
    rw [State.afterCall_ok ha, heq, ha]
    exact ⟨rfl, .inl ⟨rfl, rfl⟩⟩
  | fault =>
    obtain ⟨_, b, _, heq⟩ := s.issue_abort c
    rw [State.afterCall_fault ha, heq, ha]
    exact ⟨rfl, .inr ⟨rfl, b, rfl⟩⟩

/-- An accepted SEND goes to Acquiring, or to Failed where its length exceeds its buffer (R90, R91). -/
theorem State.acceptSend_edge (s : State) (n c : Nat) (bs : List Byte) :
    ((s.acceptSend n c bs).seqState = .acquiring ∧
      (s.acceptSend n c bs).frmLen ≤ 8 * (s.acceptSend n c bs).frmCnt) ∨
    ((s.acceptSend n c bs).seqState = .failed ∧ (s.acceptSend n c bs).txStatus = .invalidBitLength ∧
      (s.acceptSend n c bs).frmLen > 8 * (s.acceptSend n c bs).frmCnt) := by
  rcases Nat.lt_or_ge (8 * c) n with hlen | hlen
  · rw [s.acceptSend_tooLong bs hlen]
    exact .inr ⟨rfl, rfl, hlen⟩
  · rw [s.acceptSend_inBuffer bs hlen]
    exact .inl ⟨rfl, hlen⟩

/-- Settles O44: a host takes only the two edges of the acceptance, and each move of the sequencer its own. -/
theorem stateMachineEdges : Obligations.StateMachineEdges := by
  intro s t h hstep
  by_cases ha : s.turn = .sequencer
  · have m : Move s.popTurn .sequencer t := ha ▸ step_move hstep
    cases m with
    | rest => exact .inl ⟨rfl, rfl⟩
    | acquire hq =>
      cases hans : s.popTurn.acquireAnswer with
      | ok => rw [State.afterAcquire_ok hans]; exact .inr (.inr (.inr (.inl ⟨hq, rfl, rfl⟩)))
      | err => rw [State.afterAcquire_err hans]; exact .inr (.inr (.inr (.inr (.inl ⟨hq, rfl, rfl⟩))))
    | call c _ _ hq hr _ hsel =>
      have hlt : s.rep < s.act.repeatCount := Nat.lt_of_le_of_ne (h.position hq).repInRange hr
      rcases hsel.afterCall_edge.2 with ⟨hq', htr⟩ | ⟨hq', b, htr⟩
      · exact .inr (.inr (.inr (.inr (.inr (.inl ⟨hq, hq'.trans hq, hlt, c, htr⟩)))))
      · exact .inr (.inr (.inr (.inr (.inr (.inr (.inl ⟨hq, hq', hlt, c, b, htr⟩))))))
    | release _ hq hr =>
      obtain ⟨_, _, heq⟩ := s.popTurn.finishSend_eq
      rw [heq]
      exact .inr (.inr (.inr (.inr (.inr (.inr (.inr (.inl ⟨hq, rfl, hr, rfl⟩)))))))
    | deliver hq =>
      obtain ⟨_, _, heq⟩ := s.popTurn.deliverFailure_eq
      rw [heq]
      exact .inr (.inr (.inr (.inr (.inr (.inr (.inr (.inr ⟨hq, rfl, rfl⟩)))))))
  · rcases (step_move hstep).host_cases ha with ⟨_, _, _, _, _, rfl⟩ | ⟨hq, rfl | ⟨ws, n, c, bs, rfl⟩⟩
    · exact .inl ⟨rfl, rfl⟩
    · exact .inl ⟨hq.symm, rfl⟩
    · have htr := State.acceptSend_trace { s.popTurn with txWaiting := ws } n c bs
      rcases State.acceptSend_edge { s.popTurn with txWaiting := ws } n c bs with ⟨hq', hlen⟩ | ⟨hq', hst, hlen⟩
      · exact .inr (.inl ⟨hq, hq', htr, hlen⟩)
      · exact .inr (.inr (.inl ⟨hq, hq', htr, hst, hlen⟩))

/-- A move either ends a SEND, and answers it, or does neither (R110). -/
theorem Move.response_cases {s t : State} {a : Turn} (m : Move s a t) :
    ((s.seqState ≠ .idle ∧ t.seqState = .idle) ∧ ∃ st, t.responses = s.responses ++ [.txRsp .lockHolder st]) ∨
    (¬(s.seqState ≠ .idle ∧ t.seqState = .idle) ∧ AddsHostResponse s.responses t.responses) := by
  by_cases ha : a = .sequencer
  · subst ha
    cases m with
    | rest hq => exact .inr ⟨fun hend => hend.1 hq, .inl rfl⟩
    | acquire => exact .inr ⟨fun hend => s.afterAcquire_ne_idle hend.2, .inl s.afterAcquire_responses⟩
    | call _ _ _ hq _ _ hsel =>
      obtain ⟨hresp, hedge⟩ := hsel.afterCall_edge
      refine .inr ⟨fun hend => ?_, .inl hresp⟩
      rcases hedge with ⟨hq', _⟩ | ⟨hq', _⟩ <;> simp [hq, hq'] at hend
    | release _ hq =>
      obtain ⟨_, _, heq⟩ := s.finishSend_eq
      rw [heq]
      exact .inl ⟨⟨by simp [hq], rfl⟩, _, rfl⟩
    | deliver hq =>
      obtain ⟨_, _, heq⟩ := s.deliverFailure_eq
      rw [heq]
      exact .inl ⟨⟨by simp [hq], rfl⟩, _, rfl⟩
  · rcases m.host_cases ha with ⟨_, _, _, _, hresp, rfl⟩ | ⟨hq, rfl | ⟨ws, n, c, bs, rfl⟩⟩
    · exact .inr ⟨fun hend => hend.1 hend.2, hresp⟩
    · exact .inr ⟨fun hend => hend.1 hq, .inl rfl⟩
    · exact .inr ⟨fun hend => hend.1 hq, .inl (State.acceptSend_responses _ n c bs)⟩

/-- Settles O48, by the moves. -/
theorem oneResponsePerSend : Obligations.OneResponsePerSend := by
  intro s t hstep
  rcases (step_move hstep).response_cases with ⟨hend, hresp⟩ | ⟨hend, hresp⟩
  · exact (if_pos hend).mpr hresp
  · exact (if_neg hend).mpr hresp

end Sys2Proof.Machine

/-! ## Proofs: a whole SEND (R95, R100, R106)

A stretch of calls answered `Ok` is one equation between the run of so many steps and the state with the calls played;
such stretches compose, from a call to a symbol, a repetition and all repetitions. -/

namespace Sys2Proof.Machine

/-! ### Lengths (R106) -/

theorem symPulses_length (f : BitFormat) (h l : Nat) : (symPulses f h l).length = 2 := by
  cases f <;> rfl

theorem bitPulses_length (c : TimingConfig) (b : Bool) : (bitPulses c b).length = 2 := by
  cases b <;> exact symPulses_length _ _ _

theorem repPulses_length (c : TimingConfig) (bits : List Bool) :
    (repPulses c bits).length = 2 * bits.length + 5 := by
  have hbits : (bits.flatMap (bitPulses c)).length = 2 * bits.length := by
    simp [List.length_flatMap, bitPulses_length, Nat.mul_comm]
  simp only [repPulses, List.length_append, symPulses_length, hbits, List.length_singleton]
  omega

theorem symEvents_length (f : BitFormat) (h l : Nat) : (symEvents f h l).length = 4 := by
  cases f <;> rfl

theorem bitEvents_length (c : TimingConfig) (b : Bool) : (bitEvents c b).length = 4 := by
  cases b <;> exact symEvents_length _ _ _

theorem repEvents_length (c : TimingConfig) (bits : List Bool) :
    (repEvents c bits).length = 4 * bits.length + 9 := by
  have hbits : (bits.flatMap (bitEvents c)).length = 4 * bits.length := by
    simp [List.length_flatMap, bitEvents_length, Nat.mul_comm]
  simp only [repEvents, List.length_append, symEvents_length, hbits, List.length_singleton]
  omega

theorem sendPulses_length (c : TimingConfig) (bits : List Bool) :
    (sendPulses c bits).length = c.repeatCount * (2 * bits.length + 5) := by
  simp [sendPulses, repPulses_length]

theorem sendEvents_length (c : TimingConfig) (bits : List Bool) :
    (sendEvents c bits).length = c.repeatCount * (4 * bits.length + 9) := by
  simp [sendEvents, repEvents_length]

/-- Settles O54, from the lengths of a symbol and of a repetition. -/
theorem lengthsOfASend : Obligations.LengthsOfASend :=
  fun c bits => ⟨sendPulses_length c bits, by simp [sendEvents_length]⟩

@[simp] theorem State.frameBits_length (s : State) : s.frameBits.length = s.frmLen := by simp [State.frameBits]

/-! ### A stretch of calls played -/

theorem run_add {m : Nat} {s u : State} (h : Host.Core.run Sys2Proof.core m s = .next u) (n : Nat) :
    Host.Core.run Sys2Proof.core (m + n) s = Host.Core.run Sys2Proof.core n u := by
  induction m generalizing s with
  | zero =>
    cases h
    rw [Nat.zero_add]
  | succ m ih =>
    rw [Nat.add_right_comm]
    cases hstep : Sys2Proof.core.step s with
    | next v =>
      simp only [Host.Core.run, hstep] at h ⊢
      exact ih h
    | fault | refused => simp [Host.Core.run, hstep] at h

/-- The level commanded after a call answered `Ok`, from the level before it (R114). -/
def levelAfter (l : Level) : Event → Level
  | .setLevel v _ => v
  | _ => l

/-- `s` after the calls `es`, all answered `Ok`, have brought the position to `(r, k, p)`. -/
def State.played (s : State) (es : List Event) (r k : Nat) (p : Phase) : State :=
  { s with
    rep := r, slot := k, phase := p, lineCmd := es.foldl levelAfter s.lineCmd,
    callAnswers := s.callAnswers.drop es.length, draws := s.draws + es.length, trace := s.trace ++ es }

/-- From `s` the sequencer makes exactly the calls `es`, one a step, if all are answered `Ok`, and is then at
`(r, k, p)`. -/
def State.Plays (s : State) (es : List Event) (r k : Nat) (p : Phase) : Prop :=
  List.replicate es.length .ok <+: s.callAnswers →
    Host.Core.run Sys2Proof.core es.length s = .next (s.played es r k p)

theorem State.played_played (s : State) (es es' : List Event) (r k r' k' : Nat) (p p' : Phase) :
    (s.played es r k p).played es' r' k' p' = s.played (es ++ es') r' k' p' := by
  simp [State.played, List.drop_drop, Nat.add_assoc]

theorem State.Plays.trans {s : State} {es es' : List Event} {r k r' k' : Nat} {p p' : Phase}
    (h : s.Plays es r k p) (h' : (s.played es r k p).Plays es' r' k' p') : s.Plays (es ++ es') r' k' p' := by
  rintro ⟨rest, hans⟩
  rw [List.length_append, ← List.replicate_append_replicate, List.append_assoc] at hans
  have hdrop : (s.played es r k p).callAnswers = List.replicate es'.length .ok ++ rest := by
    rw [State.played, ← hans, List.drop_left' List.length_replicate]
  rw [List.length_append, run_add (h ⟨_, hans⟩), h' ⟨rest, hdrop.symm⟩, s.played_played]

/-- A SEND in Sending whose length is checked, with no move of a host to come. -/
structure State.Playing (s : State) : Prop where
  turns : s.turns = []
  seqState : s.seqState = .sending
  handle : ∃ hd, s.handle = some hd
  length : s.frmLen ≤ 8 * s.frmCnt

/-- The position selects this operation (R97). -/
def State.Selects (s : State) (i : Instr) : Prop :=
  ∃ c, s.symbolCode = .ok c ∧ decode s.params.widths c = .ok i

/-- The slot after the call of a phase of EMIT (R80). -/
def slotAfter (k : Nat) : Phase → Nat
  | .holdSecond => k + 1
  | _ => k

/-- The phase after the call of a phase of EMIT (R80). -/
def phaseAfter : Phase → Phase
  | .setFirst => .holdFirst
  | .holdFirst => .setSecond
  | .setSecond => .holdSecond
  | .holdSecond => .setFirst

theorem State.advance_setSeq (s : State) :
    s.advance = s.setSeq s.rep (slotAfter s.slot s.phase) (phaseAfter s.phase) := by
  rw [State.advance]
  cases s.phase <;> rfl

section
variable {s : State} {i : Instr} {h l : Nat}

theorem State.Playing.played (hs : s.Playing) (es : List Event) (r k : Nat) (p : Phase) :
    (s.played es r k p).Playing :=
  ⟨hs.turns, hs.seqState, hs.handle, hs.length⟩

theorem State.Playing.step_eq (hs : s.Playing) (hr : s.rep ≠ s.act.repeatCount) (hsel : s.Selects i) :
    step s = exec i s := by
  obtain ⟨c, hc, hi⟩ := hsel
  rw [step_of_no_turns hs.turns, sequencerStep_symbol hs.seqState hr hc hi]

theorem State.plays_nil {r k : Nat} {p : Phase} (hr : s.rep = r) (hk : s.slot = k) (hp : s.phase = p) :
    s.Plays [] r k p := by
  subst hr hk hp
  intro _
  simp [State.played, Host.Core.run]

/-- One step whose call is answered `Ok` plays its event. -/
theorem State.plays_one {e : Event} {r k : Nat} {p : Phase}
    (hstep : s.callAnswer = .ok → step s = .next (s.played [e] r k p)) : s.Plays [e] r k p := by
  rintro ⟨rest, hans⟩
  have ha : s.callAnswer = .ok := by rw [State.callAnswer, ← hans]; rfl
  exact run_succ (hstep ha) 0

/-- One call of a symbol (R79, R80). -/
theorem State.Playing.call_plays (hs : s.Playing) (hr : s.rep ≠ s.act.repeatCount) (hsel : s.Selects i)
    (hd : symbolDurations s.act i = some (h, l)) {p : Phase} (hp : s.phase = p) :
    s.Plays [(emitCall h l s.act.format p).event .ok] s.rep (slotAfter s.slot p) (phaseAfter p) := by
  refine State.plays_one fun ha => ?_
  obtain ⟨hn, hh⟩ := hs.handle
  rw [hs.step_eq hr hsel, exec_symbol_ok hd hh ha hp, State.advance_setSeq, State.played, List.length_singleton,
    List.drop_one]
  cases emitCall h l s.act.format p <;> rfl

/-- The calls of a symbol are those of the four phases of EMIT (R79, R80). -/
theorem symEvents_eq_calls (f : BitFormat) (h l : Nat) :
    symEvents f h l =
      [(emitCall h l f .setFirst).event .ok] ++ [(emitCall h l f .holdFirst).event .ok] ++
        [(emitCall h l f .setSecond).event .ok] ++ [(emitCall h l f .holdSecond).event .ok] := by
  cases f <;> rfl

/-- The four calls of a symbol lead to the next slot (R79, R80). -/
theorem State.Playing.symbol_plays (hs : s.Playing) (hr : s.rep ≠ s.act.repeatCount) (hsel : s.Selects i)
    (hd : symbolDurations s.act i = some (h, l)) (hp : s.phase = .setFirst) :
    s.Plays (symEvents s.act.format h l) s.rep (s.slot + 1) .setFirst := by
  have call (es : List Event) (p : Phase) : (s.played es s.rep s.slot p).Plays
      [(emitCall h l s.act.format p).event .ok] s.rep (slotAfter s.slot p) (phaseAfter p) :=
    (hs.played _ _ _ _).call_plays hr hsel hd rfl
  rw [symEvents_eq_calls]
  exact (((hs.call_plays hr hsel hd hp).trans (call _ .holdFirst)).trans (call _ .setSecond)).trans
    (call _ .holdSecond)

/-- The symbol of a data slot is that of its bit (R36, R60). -/
theorem State.Playing.bit_plays (hs : s.Playing) (hr : s.rep ≠ s.act.repeatCount) {j : Nat}
    (hj : j < s.frameBits.length) (hk : s.slot = j + 1) (hp : s.phase = .setFirst) :
    s.Plays (bitEvents s.act s.frameBits[j]) s.rep (j + 2) .setFirst := by
  have hbit : s.frameBits[j] = (Memory.read s.frmBytes (j / 8)).getLsbD (7 - j % 8) := by simp [State.frameBits]
  have hcode : s.symbolCode = .ok (.frameBit s.frameBits[j]) :=
    hbit ▸ symbolCode_data hk (s.frameBits_length ▸ hj) hs.length
  have hslot : j + 2 = s.slot + 1 := by rw [hk]
  rw [hslot]
  generalize s.frameBits[j] = b at hcode ⊢
  cases b <;> exact hs.symbol_plays hr ⟨_, hcode, rfl⟩ rfl hp

/-- The first `m` data slots send the first `m` bits of the frame (R95). -/
theorem State.Playing.bits_play (hs : s.Playing) (hr : s.rep ≠ s.act.repeatCount) (hk : s.slot = 1)
    (hp : s.phase = .setFirst) {m : Nat} (hm : m ≤ s.frmLen) :
    s.Plays ((s.frameBits.take m).flatMap (bitEvents s.act)) s.rep (m + 1) .setFirst := by
  induction m with
  | zero => exact State.plays_nil rfl hk hp
  | succ m ih =>
    have hm' : m < s.frameBits.length := by rwa [s.frameBits_length]
    have hlast := (hs.played ((s.frameBits.take m).flatMap (bitEvents s.act)) s.rep (m + 1) .setFirst).bit_plays hr
      hm' rfl rfl
    rw [List.take_succ_eq_append_getElem hm', List.flatMap_append, List.flatMap_singleton]
    exact (ih (Nat.le_of_succ_le hm)).trans hlast

theorem State.Playing.frame_plays (hs : s.Playing) (hr : s.rep ≠ s.act.repeatCount) (hk : s.slot = 1)
    (hp : s.phase = .setFirst) : s.Plays (s.frameBits.flatMap (bitEvents s.act)) s.rep (s.frmLen + 1) .setFirst := by
  have hall := hs.bits_play hr hk hp le_rfl
  rwa [List.take_of_length_le s.frameBits_length.le] at hall

theorem State.Playing.start_plays (hs : s.Playing) (hr : s.rep ≠ s.act.repeatCount) (hk : s.slot = 0)
    (hp : s.phase = .setFirst) :
    s.Plays (symEvents s.act.format s.act.startHigh s.act.startLow) s.rep 1 .setFirst := by
  have hdec : decode s.params.widths (.implicit s.slot s.frmLen) = .ok .symStart := by
    rw [decode, hk, decodeImplicit_start]
  simpa [hk] using hs.symbol_plays hr ⟨_, symbolCode_implicit (.inl hk), hdec⟩ rfl hp

theorem State.Playing.end_plays (hs : s.Playing) (hr : s.rep ≠ s.act.repeatCount) (hk : s.slot = s.frmLen + 1)
    (hp : s.phase = .setFirst) :
    s.Plays (symEvents s.act.format s.act.endHigh s.act.endLow) s.rep (s.frmLen + 2) .setFirst := by
  have hdec : decode s.params.widths (.implicit s.slot s.frmLen) = .ok .symEnd := by
    rw [decode, hk, decodeImplicit_end]
  simpa [hk] using hs.symbol_plays hr ⟨_, symbolCode_implicit (.inr (by omega)), hdec⟩ rfl hp

/-- The forced low ends a repetition (R85). -/
theorem State.Playing.forceLow_plays (hs : s.Playing) (hr : s.rep ≠ s.act.repeatCount) (hk : s.slot = s.frmLen + 2) :
    s.Plays [.setLevel .low .ok] (s.rep + 1) 0 .setFirst := by
  have hdec : decode s.params.widths (.implicit s.slot s.frmLen) = .ok .forceLow := by
    rw [decode, hk, decodeImplicit_forceLow]
  refine State.plays_one fun ha => ?_
  obtain ⟨hn, hh⟩ := hs.handle
  rw [hs.step_eq hr ⟨_, symbolCode_implicit (.inr (by omega)), hdec⟩, forceLowStep hn s hh ha, State.played,
    List.length_singleton, List.drop_one]
  rfl

/-- One repetition: the start marker, the bits, the end marker, the forced low (R95). -/
theorem State.Playing.repetition_plays (hs : s.Playing) (hr : s.rep ≠ s.act.repeatCount) (hk : s.slot = 0)
    (hp : s.phase = .setFirst) : s.Plays (repEvents s.act s.frameBits) (s.rep + 1) 0 .setFirst := by
  exact (((hs.start_plays hr hk hp).trans ((hs.played _ _ _ _).frame_plays hr rfl rfl)).trans
    ((hs.played _ _ _ _).end_plays hr rfl rfl)).trans ((hs.played _ _ _ _).forceLow_plays hr rfl)

/-- From the first repetition on, as many can be played as the snapshot counts (R94, R95). -/
theorem State.Playing.repetitions_play (hs : s.Playing) (h0 : s.rep = 0) (hk : s.slot = 0) (hp : s.phase = .setFirst)
    {n : Nat} (hn : n ≤ s.act.repeatCount) :
    s.Plays (List.replicate n (repEvents s.act s.frameBits)).flatten n 0 .setFirst := by
  induction n with
  | zero => exact State.plays_nil h0 hk hp
  | succ n ih =>
    have hlast := (hs.played (List.replicate n (repEvents s.act s.frameBits)).flatten n 0
      .setFirst).repetition_plays (Nat.ne_of_lt hn) rfl rfl
    rw [List.replicate_succ', List.flatten_append, List.flatten_singleton]
    exact (ih (Nat.le_of_succ_le hn)).trans hlast

end

/-! ### The whole SEND -/

/-- A repetition leaves the level Low, and so does any number of them (R95). -/
theorem levelAfter_sendEvents (c : TimingConfig) (bits : List Bool) :
    (sendEvents c bits).foldl levelAfter .low = .low := by
  rw [sendEvents]
  cases c.repeatCount with
  | zero => rfl
  | succ n => simp [List.replicate_succ', repEvents, levelAfter]

/-- `s` after its acquisition has given the handle `hd` (R92, R93). -/
def State.acquired (s : State) (hd : LineHandle) : State :=
  { s with
    handle := some hd, act := s.cfg, rep := 0, slot := 0, phase := .setFirst, seqState := .sending,
    acquireAnswers := s.acquireAnswers.tail, draws := s.draws + 1, trace := s.trace ++ [.acquireOk] }

section
variable {s : State} {hd : LineHandle} {es : List Event}

theorem step_acquired (ht : s.turns = []) (hq : s.seqState = .acquiring) (ha : s.acquireAnswer = .ok hd) :
    step s = .next (s.acquired hd) := by
  rw [step_of_no_turns ht, sequencerStep_acquiring hq, exec_liAcquire hq, State.afterAcquire_ok ha]
  rfl

theorem step_release (ht : s.turns = []) (hq : s.seqState = .sending) (hh : s.handle = some hd)
    (hr : s.rep = s.act.repeatCount) : step s = .next s.finishSend := by
  rw [step_of_no_turns ht, sequencerStep_release hq hr, exec_liRelease hh]

/-- A SEND is its acquisition, the calls that bring it to the release point, and its release (R98, R106). -/
theorem State.Plays.whole (h : (s.acquired hd).Plays es s.cfg.repeatCount 0 .setFirst) (ht : s.turns = [])
    (hq : s.seqState = .acquiring) (ha : s.acquireAnswer = .ok hd)
    (hans : List.replicate es.length .ok <+: s.callAnswers) :
    ∃ t : State, Host.Core.run Sys2Proof.core (es.length + 2) s = .next t ∧
      t.trace = s.trace ++ (.acquireOk :: es ++ [.release]) ∧
      t.responses = s.responses ++ [.txRsp .lockHolder .ok] ∧
      t.seqState = .idle ∧ t.lock = false ∧ t.handle = none ∧ t.lineCmd = es.foldl levelAfter s.lineCmd ∧
      t.cfg = s.cfg ∧ t.callAnswers = s.callAnswers.drop es.length ∧ t.acquireAnswers = s.acquireAnswers.tail := by
  have hrel : step ((s.acquired hd).played es s.cfg.repeatCount 0 .setFirst) =
      .next ((s.acquired hd).played es s.cfg.repeatCount 0 .setFirst).finishSend := step_release ht rfl rfl rfl
  have hrun : Host.Core.run Sys2Proof.core (es.length + 2) s =
      .next ((s.acquired hd).played es s.cfg.repeatCount 0 .setFirst).finishSend :=
    ((run_succ (step_acquired ht hq ha) _).trans (run_add (h hans) 1)).trans (run_succ hrel 0)
  obtain ⟨_, _, heq⟩ := State.finishSend_eq ((s.acquired hd).played es s.cfg.repeatCount 0 .setFirst)
  rw [heq] at hrun
  exact ⟨_, hrun, by simp [State.played, State.acquired], rfl, rfl, rfl, rfl, rfl, rfl, rfl, rfl⟩

end

/-- Settles O51: after the acquisition all repetitions are left to play. -/
theorem wholeSendTrace : Obligations.WholeSendTrace := by
  intro s h as rest ht hq hlow hlen hacq hans
  have ha : s.acquireAnswer = .ok h := by rw [State.acquireAnswer, hacq]; rfl
  have hs : (s.acquired h).Playing := ⟨ht, rfl, ⟨h, rfl⟩, hlen⟩
  have hplays : (s.acquired h).Plays (sendEvents s.cfg s.frameBits) s.cfg.repeatCount 0 .setFirst :=
    hs.repetitions_play rfl rfl rfl le_rfl
  have hcount : (sendEvents s.cfg s.frameBits).length = s.cfg.repeatCount * (4 * s.frmLen + 9) := by
    rw [sendEvents_length, s.frameBits_length]
  obtain ⟨t, hrun, htr, hresp, hidle, hlock, hhandle, hlevel, hcfg, hrest, has⟩ :=
    hplays.whole ht hq ha ⟨rest, by rw [hcount, hans]⟩
  rw [hcount] at hrun hrest
  rw [hlow, levelAfter_sendEvents] at hlevel
  rw [hans, List.drop_left' List.length_replicate] at hrest
  rw [hacq] at has
  exact ⟨t, hrun, htr, hresp, hidle, hlock, hhandle, hlevel, hcfg, hrest, has⟩

/-- Settles O52: a repeat count of 0 is reached as soon as the line is acquired, with no call played. -/
theorem repeatCountZeroTransmitsNothing : Obligations.RepeatCountZeroTransmitsNothing := by
  intro s h ht hq hzero ha
  have hplays : (s.acquired h).Plays [] s.cfg.repeatCount 0 .setFirst :=
    State.plays_nil hzero.symm rfl rfl
  obtain ⟨t, hrun, htr, hresp, hidle, _, _, hlevel, _⟩ := hplays.whole ht hq ha List.nil_prefix
  exact ⟨t, hrun, htr, hresp, hidle, hlevel⟩

end Sys2Proof.Machine

/-! ## Proofs: the calls of the Line Interface (43_line_interface.md)

A call answered `Ok` writes its own effect and its event (R114, R115); a call outside the discipline of R117 is refused
(log 10). -/

namespace Sys2Proof.Machine

section
variable {s : State}

/-- On a held handle, a call made for its own sake and answered `Ok` has its effect and nothing after it. -/
theorem LineCall.exec_instr_ok {hd : LineHandle} (hh : s.handle = some hd) (ha : s.callAnswer = .ok) (c : LineCall) :
    exec c.instr s = .next (c.effect (s.issue c)) :=
  (c.exec_instr s).trans (performCall_ok hh ha c id)

theorem performCall_no_handle (hh : s.handle = none) (c : LineCall) (onOk : State → State) :
    performCall c onOk s = .refused .lineNotHeld := by
  rw [performCall, hh]

theorem exec_liRelease_no_handle (hh : s.handle = none) : exec .liRelease s = .refused .lineNotHeld := by
  simp only [exec, execLiRelease, hh]

theorem exec_symbol_no_handle {i : Instr} {h l : Nat} (hi : symbolDurations s.act i = some (h, l))
    (hh : s.handle = none) : exec i s = .refused .lineNotHeld :=
  (exec_symbol hi).trans (performCall_no_handle hh _ _)

theorem exec_liAcquire_refused (hq : s.seqState ≠ .acquiring) : exec .liAcquire s = .refused .notAcquiring :=
  if_neg hq

end

/-- Settles O23: the effect of a call that sets a level is LINE_CMD. -/
theorem setLevelOk : Obligations.SetLevelOk := by
  intro l hd s hh ha
  have hcall := LineCall.exec_instr_ok hh ha (.setLevel l)
  rw [LineCall.effect_issue, ha] at hcall
  exact hcall

/-- Settles O24: a delay has no effect but its event. -/
theorem delayOk : Obligations.DelayOk := by
  intro n hd s hh ha
  have hcall := LineCall.exec_instr_ok hh ha (.delay n)
  rw [LineCall.effect_issue, ha] at hcall
  exact hcall

/-- Settles O27: of the operations that need a handle, LI_RELEASE asks for it itself, and the others make one call. -/
theorem noCallOutsideTheDiscipline : Obligations.NoCallOutsideTheDiscipline := by
  refine ⟨fun i s hh hi => ?_, fun s hq => exec_liAcquire_refused hq⟩
  obtain ⟨l, rfl⟩ | ⟨n, rfl⟩ | rfl | rfl | hsym := hi
  · exact performCall_no_handle hh (.setLevel l) id
  · exact performCall_no_handle hh (.delay n) id
  · exact exec_liRelease_no_handle hh
  · exact performCall_no_handle hh (.setLevel .low) State.nextRepetition
  · obtain ⟨⟨_, _⟩, hdur⟩ := Option.isSome_iff_exists.mp hsym
    exact exec_symbol_no_handle hdur hh

end Sys2Proof.Machine

/-! ## Proofs: the errors (60_exceptions.md)

A call answered `Fault` is followed by the abort, whatever was to follow it (R130); and no operation but SET_CONFIG
answers InvalidFormat (R125). -/

namespace Sys2Proof.Machine

/-! ### The abort (R130) -/

/-- On a held handle, a call answered `Fault` ends in the abort, whatever would have followed an `Ok`. -/
theorem performCall_fault {s : State} {hd : LineHandle} (hh : s.handle = some hd) (ha : s.callAnswer = .fault)
    (c : LineCall) (onOk : State → State) : performCall c onOk s = .next (s.issue c).abort :=
  performCall_eq_next.mpr ⟨by rw [hh]; rfl, (State.afterCall_fault ha).symm⟩

/-- Settles O26: each of the operations makes one call, and the abort follows it. -/
theorem abortOnFault : Obligations.AbortOnFault := by
  intro i e hd s hh ha hcall
  obtain ⟨c, rfl, hexec⟩ : ∃ c : LineCall, e = c.event .fault ∧ exec i s = .next (s.issue c).abort := by
    obtain ⟨l, rfl, rfl⟩ | ⟨n, rfl, rfl⟩ | ⟨rfl, rfl⟩ | ⟨h, l, hdur, rfl⟩ := hcall
    · exact ⟨.setLevel l, rfl, performCall_fault hh ha _ id⟩
    · exact ⟨.delay n, rfl, performCall_fault hh ha _ id⟩
    · exact ⟨.setLevel .low, rfl, performCall_fault hh ha _ State.nextRepetition⟩
    · exact ⟨_, rfl, (exec_symbol hdur).trans (performCall_fault hh ha _ State.advance)⟩
  obtain ⟨d, b, hfits, heq⟩ := s.issue_abort c
  exact ⟨d, b, hfits, by rw [hexec, heq, ha]⟩

/-! ### InvalidFormat (R125) -/

/-- The responses `rs'` are `rs` and one more, on either port, with the status `st`. -/
def AddsStatus (st : Status) (rs rs' : List Response) : Prop :=
  (∃ r, rs' = rs ++ [.cfgRsp st r]) ∨ ∃ q, rs' = rs ++ [.txRsp q st]

@[simp] theorem not_addsStatus_self (st : Status) (rs : List Response) : ¬AddsStatus st rs rs := by
  simp [AddsStatus]

@[simp] theorem addsStatus_cfgRsp {st st' : Status} {rs : List Response} {r : Nat} :
    AddsStatus st rs (rs ++ [.cfgRsp st' r]) ↔ st' = st := by
  simp [AddsStatus]

@[simp] theorem addsStatus_txRsp {st st' : Status} {rs : List Response} {q : Requester} :
    AddsStatus st rs (rs ++ [.txRsp q st']) ↔ st' = st := by
  simp [AddsStatus]

/-- A call gives no response, where what follows its `Ok` gives none. -/
theorem performCall_responses {c : LineCall} {onOk : State → State} {s t : State}
    (hok : ∀ v : State, (onOk v).responses = v.responses) (h : performCall c onOk s = .next t) :
    t.responses = s.responses := by
  obtain ⟨_, rfl⟩ := performCall_eq_next.mp h
  cases ha : s.callAnswer with
  | ok => rw [State.afterCall_ok ha, hok, LineCall.effect_issue]
  | fault =>
    obtain ⟨_, _, _, heq⟩ := s.issue_abort c
    rw [State.afterCall_fault ha, heq]

theorem State.advance_responses (s : State) : s.advance.responses = s.responses := by
  rw [State.advance_eq]

/-- No other operation raises InvalidFormat: where one responds at once, it is with `Ok` or LineUnavailable (R125). -/
theorem exec_not_invalidFormat {i : Instr} {s t : State} (hi : ∀ c, i ≠ .setConfig c) (h : exec i s = .next t) :
    ¬AddsStatus .invalidFormat s.responses t.responses := by
  cases i with
  | setConfig c => exact absurd rfl (hi c)
  | readConfig => cases h; simp
  | send n c bs =>
    rcases execSend_next (r := ⟨n, c, bs⟩) h with ⟨_, rfl⟩ | ⟨_, rfl⟩
    · simp
    · unfold State.meetBusy
      split <;> simp
  | liAcquire =>
    simp only [exec, execLiAcquire] at h
    split at h <;> cases h
    simp
  | liRelease =>
    simp only [exec, execLiRelease] at h
    split at h <;> cases h
    obtain ⟨_, _, heq⟩ := s.finishSend_eq
    simp [heq]
  | symStart | symBit0 | symBit1 | symEnd => simp [performCall_responses State.advance_responses h]
  | forceLow => simp [performCall_responses (onOk := State.nextRepetition) (fun _ => rfl) h]
  | liSetLevel _ | liDelay _ => simp [performCall_responses (onOk := id) (fun _ => rfl) h]

/-- SET_CONFIG answers InvalidFormat where validation fails, and there it does not write CFG (R73, R125). -/
theorem exec_setConfig_invalidFormat {c : RawConfig} {s t : State} (h : exec (.setConfig c) s = .next t) :
    (AddsStatus .invalidFormat s.responses t.responses ↔ 2 ≤ c.format) ∧ (2 ≤ c.format → t.cfg = s.cfg) := by
  rw [← RawConfig.validate_eq_none_iff]
  cases hv : c.validate with
  | none =>
    obtain ⟨_, _, heq⟩ := exec_setConfig_of_validate_none hv s
    cases h.symm.trans heq
    simp
  | some v =>
    obtain ⟨_, _, heq⟩ := exec_setConfig_of_validate_some hv s
    cases h.symm.trans heq
    simp

/-- Settles O13: validation decides for SET_CONFIG, and no other operation answers InvalidFormat. -/
theorem invalidFormatExactlyWhen : Obligations.InvalidFormatExactlyWhen := by
  intro i s t h
  by_cases hi : ∃ c, i = .setConfig c
  · obtain ⟨c, rfl⟩ := hi
    obtain ⟨hiff, hcfg⟩ := exec_setConfig_invalidFormat h
    refine ⟨hiff.trans ⟨fun hf => ⟨c, rfl, hf⟩, ?_⟩, ?_⟩
    · rintro ⟨_, ⟨⟩, hf⟩
      exact hf
    · rintro _ ⟨⟩ hf
      exact hcfg hf
  · have hi : ∀ c, i ≠ .setConfig c := not_exists.mp hi
    refine ⟨iff_of_false (exec_not_invalidFormat hi h) ?_, fun c hc => absurd hc (hi c)⟩
    rintro ⟨c, hc, _⟩
    exact hi c hc

end Sys2Proof.Machine

/-! ## Proofs: the reset event (70_reset_and_hazards.md) -/

namespace Sys2Proof.Machine

section
variable {s : State}

theorem resetTurn_idle (hq : s.seqState = .idle) : resetTurn s = .next s.resetEvent := if_pos hq

/-- A reset while a SEND is in progress is outside the specified behaviour (R144). -/
theorem resetTurn_busy (hq : s.seqState ≠ .idle) : resetTurn s = .refused .resetDuringSend := if_neg hq

end

/-- Settles O39: in Idle the step's next state is that of the reset event, and outside Idle the event is refused. -/
theorem resetEvent : Obligations.ResetEvent := by
  intro s ts ht
  have hstep : step s = resetTurn { s with turns := ts } := step_of_turns ht
  refine ⟨fun hq => ⟨State.resetEvent { s with turns := ts }, hstep.trans (resetTurn_idle hq), ?_⟩,
    fun hq => hstep.trans (resetTurn_busy hq)⟩
  exact ⟨rfl, rfl, rfl, rfl, rfl, rfl, rfl, rfl, rfl, rfl, rfl, rfl⟩

end Sys2Proof.Machine

/-! ## Proofs: the admitted inputs (00_scope.md) -/

namespace Sys2Proof.Machine

/-- Settles O18: SEND compares the count with MAX_BYTES before it looks at the sequencer or at BUSY_POLICY, so one
guard decides in every state (R7). -/
theorem sendAboveMaxBytesRefused : Obligations.SendAboveMaxBytesRefused := by
  intro len cnt bytes s hc
  calc exec (.send len cnt bytes) s
    _ = execSend len cnt bytes s := rfl
    _ = .refused .requestAboveMaxBytes := if_pos hc

end Sys2Proof.Machine
